-- ==== Sys2Proof/Word.lean ====
section
/-! DEFINITION. The two machine words: a byte (8 bits) and an address (16 bits), R6 of spec/00_scope.md. -/

namespace Sys2Proof

/-- A byte: 8 bits, bit 0 the least significant (R6, R8, R9). -/
abbrev Byte := BitVec 8

/-- A 16-bit word: PC, an effective address, a bus address (R6, R24, R60). -/
abbrev Word := BitVec 16

end Sys2Proof
end

