-- ==== Sys2Proof/Config.lean ====
section
/-! DEFINITION. What the spec leaves open (R7 of spec/00_scope.md, the open parameters of spec/92_eei_decisions.md). A free
value is an opaque constant: no body, so that a claim holds whatever it is. The parameters that are arguments of the machine stand in its Setup. -/

namespace Sys2Proof

/-- One access of the external device port (R75, R76): the read of an address with the device's answer, or the write of a
byte to an address. -/
inductive PortAccess where
  | read (addr : Word) (answer : Byte)
  | write (addr : Word) (value : Byte)
  deriving DecidableEq, Repr

/-- `BASIC_ROM` (R7, R37, D6): the byte at an index of the BASIC image that the host has not supplied. Free. Log 3. -/
opaque Config.basicRom : BitVec 13 → Byte

/-- `KERNAL_ROM` (R7, R37, D6): the byte at an index of the KERNAL image that the host has not supplied. Free. Log 3. -/
opaque Config.kernalRom : BitVec 13 → Byte

/-- `CHAR_ROM` (R7, R37, D6): the byte at an index of the character image that the host has not supplied. Free. Log 3. -/
opaque Config.charRom : BitVec 12 → Byte

/-- `RAM_INIT` (R7, R383, D6, U2): the byte that a RAM address holds when nothing has written it since reset number
`epoch`. Free, and drawn anew at every reset. Log 2. -/
opaque Config.ramInit (epoch : Nat) (addr : Word) : Byte

/-- `DEVICE_PORT`'s read oracle (R75, D11, U9): the device's answer at an address after the accesses it has seen. Free.
Log 4. -/
opaque Config.deviceAnswer (seen : List PortAccess) (addr : Word) : Byte

/-- `ANE_MAGIC` (R7, R306, D3, U5): a byte that varies with chip, temperature and bus state. Free at every use. Log 5. -/
opaque Config.aneMagic (draw : Nat) : Byte

/-- `LXA_MAGIC` (R7, R307, D3, U5). Free at every use. Log 5. -/
opaque Config.lxaMagic (draw : Nat) : Byte

/-- The analogue factor of the value SHA, SHX, SHY and TAS store without a page crossing (R308 to R311, U5): it stands
where the informative formulas have `H`, which it is given. Free at every use. Log 6. -/
opaque Config.unstableHigh (draw : Nat) (h : Byte) : Byte

/-- The value SHA, SHX, SHY and TAS store when the index crosses a page: "this spec does not define that case at all"
(spec/48_undocumented.md section 5). Free at every use. Log 7. -/
opaque Config.crossedValue (draw : Nat) : Byte

/-- The high byte of the address SHA, SHX, SHY and TAS store to when the index crosses a page (section 5 of
spec/48_undocumented.md). Free at every use. Log 7. -/
opaque Config.crossedHigh (draw : Nat) : Byte

/-- The domain of `RESET_P` (R7, R381, U1): irq-disable set, or only the unused bit forced. -/
inductive ResetP where
  | irqDisabled
  | unusedOnly
  deriving DecidableEq, Repr

/-- `RESET_P` as a byte (R44, R381, D4): U = 1, I as the setting says, the rest 0. Log 8. -/
def Config.resetP : ResetP → Byte
  | .irqDisabled => 0x24#8
  | .unusedOnly => 0x20#8

end Sys2Proof
end

