-- ==== Sys2Proof/Syntax.lean ====
section
/-! DEFINITION. The instructions: one constructor per row of spec/opcode_table.json, 256 in all (R111, R116), each with the
operand its format has (R112, R113): a byte after the opcode, or the 16-bit address the two bytes after it make (R115). -/

namespace Sys2Proof

/-- The 76 mnemonics of the opcode table (R117, R118). -/
inductive Mnemonic where
  | brk | ora | jam | slo | nop | asl | php | anc | bpl | clc | jsr | and | rla | bit | rol | plp | bmi | sec | rti
  | eor | sre | lsr | pha | alr | jmp | bvc | cli | rts | adc | rra | ror | pla | arr | bvs | sei | sta | sax | sty
  | stx | dey | txa | ane | bcc | sha | tya | txs | tas | shy | shx | ldy | lda | ldx | lax | tay | tax | lxa | bcs
  | clv | tsx | las | cpy | cmp | dcp | dec | iny | dex | sbx | bne | cld | cpx | sbc | isc | inc | inx | beq | sed
  deriving DecidableEq, Repr

/-- The addressing mode of an instruction with its operand bytes assembled (R113, R115). `inv` is the fourteenth tag, that of
the JAM rows, which is no addressing mode (R154). -/
inductive Operand where
  | imp
  | acc
  | imm (v : Byte)
  | zp (z : Byte)
  | zpx (z : Byte)
  | zpy (z : Byte)
  | abs (addr : Word)
  | abx (addr : Word)
  | aby (addr : Word)
  | rel (off : Byte)
  | ind (ptr : Word)
  | izx (z : Byte)
  | izy (z : Byte)
  | inv
  deriving DecidableEq, Repr

/-- The instructions, a constructor per opcode (R116): those with an operand in the table's order, then those without. A name is the mnemonic, then the mode where the
mnemonic has several, then the opcode where an undocumented row shares mnemonic and mode with another. -/
inductive Instr where
  | oraIzx (z : Byte)
  | sloIzx (z : Byte)
  | nopZp04 (z : Byte)
  | oraZp (z : Byte)
  | aslZp (z : Byte)
  | sloZp (z : Byte)
  | oraImm (v : Byte)
  | ancImm0B (v : Byte)
  | nopAbs (addr : Word)
  | oraAbs (addr : Word)
  | aslAbs (addr : Word)
  | sloAbs (addr : Word)
  | bpl (off : Byte)
  | oraIzy (z : Byte)
  | sloIzy (z : Byte)
  | nopZpx14 (z : Byte)
  | oraZpx (z : Byte)
  | aslZpx (z : Byte)
  | sloZpx (z : Byte)
  | oraAby (addr : Word)
  | sloAby (addr : Word)
  | nopAbx1C (addr : Word)
  | oraAbx (addr : Word)
  | aslAbx (addr : Word)
  | sloAbx (addr : Word)
  | jsr (addr : Word)
  | andIzx (z : Byte)
  | rlaIzx (z : Byte)
  | bitZp (z : Byte)
  | andZp (z : Byte)
  | rolZp (z : Byte)
  | rlaZp (z : Byte)
  | andImm (v : Byte)
  | ancImm2B (v : Byte)
  | bitAbs (addr : Word)
  | andAbs (addr : Word)
  | rolAbs (addr : Word)
  | rlaAbs (addr : Word)
  | bmi (off : Byte)
  | andIzy (z : Byte)
  | rlaIzy (z : Byte)
  | nopZpx34 (z : Byte)
  | andZpx (z : Byte)
  | rolZpx (z : Byte)
  | rlaZpx (z : Byte)
  | andAby (addr : Word)
  | rlaAby (addr : Word)
  | nopAbx3C (addr : Word)
  | andAbx (addr : Word)
  | rolAbx (addr : Word)
  | rlaAbx (addr : Word)
  | eorIzx (z : Byte)
  | sreIzx (z : Byte)
  | nopZp44 (z : Byte)
  | eorZp (z : Byte)
  | lsrZp (z : Byte)
  | sreZp (z : Byte)
  | eorImm (v : Byte)
  | alr (v : Byte)
  | jmpAbs (addr : Word)
  | eorAbs (addr : Word)
  | lsrAbs (addr : Word)
  | sreAbs (addr : Word)
  | bvc (off : Byte)
  | eorIzy (z : Byte)
  | sreIzy (z : Byte)
  | nopZpx54 (z : Byte)
  | eorZpx (z : Byte)
  | lsrZpx (z : Byte)
  | sreZpx (z : Byte)
  | eorAby (addr : Word)
  | sreAby (addr : Word)
  | nopAbx5C (addr : Word)
  | eorAbx (addr : Word)
  | lsrAbx (addr : Word)
  | sreAbx (addr : Word)
  | adcIzx (z : Byte)
  | rraIzx (z : Byte)
  | nopZp64 (z : Byte)
  | adcZp (z : Byte)
  | rorZp (z : Byte)
  | rraZp (z : Byte)
  | adcImm (v : Byte)
  | arr (v : Byte)
  | jmpInd (ptr : Word)
  | adcAbs (addr : Word)
  | rorAbs (addr : Word)
  | rraAbs (addr : Word)
  | bvs (off : Byte)
  | adcIzy (z : Byte)
  | rraIzy (z : Byte)
  | nopZpx74 (z : Byte)
  | adcZpx (z : Byte)
  | rorZpx (z : Byte)
  | rraZpx (z : Byte)
  | adcAby (addr : Word)
  | rraAby (addr : Word)
  | nopAbx7C (addr : Word)
  | adcAbx (addr : Word)
  | rorAbx (addr : Word)
  | rraAbx (addr : Word)
  | nopImm80 (v : Byte)
  | staIzx (z : Byte)
  | nopImm82 (v : Byte)
  | saxIzx (z : Byte)
  | styZp (z : Byte)
  | staZp (z : Byte)
  | stxZp (z : Byte)
  | saxZp (z : Byte)
  | nopImm89 (v : Byte)
  | ane (v : Byte)
  | styAbs (addr : Word)
  | staAbs (addr : Word)
  | stxAbs (addr : Word)
  | saxAbs (addr : Word)
  | bcc (off : Byte)
  | staIzy (z : Byte)
  | shaIzy (z : Byte)
  | styZpx (z : Byte)
  | staZpx (z : Byte)
  | stxZpy (z : Byte)
  | saxZpy (z : Byte)
  | staAby (addr : Word)
  | tas (addr : Word)
  | shy (addr : Word)
  | staAbx (addr : Word)
  | shx (addr : Word)
  | shaAby (addr : Word)
  | ldyImm (v : Byte)
  | ldaIzx (z : Byte)
  | ldxImm (v : Byte)
  | laxIzx (z : Byte)
  | ldyZp (z : Byte)
  | ldaZp (z : Byte)
  | ldxZp (z : Byte)
  | laxZp (z : Byte)
  | ldaImm (v : Byte)
  | lxa (v : Byte)
  | ldyAbs (addr : Word)
  | ldaAbs (addr : Word)
  | ldxAbs (addr : Word)
  | laxAbs (addr : Word)
  | bcs (off : Byte)
  | ldaIzy (z : Byte)
  | laxIzy (z : Byte)
  | ldyZpx (z : Byte)
  | ldaZpx (z : Byte)
  | ldxZpy (z : Byte)
  | laxZpy (z : Byte)
  | ldaAby (addr : Word)
  | las (addr : Word)
  | ldyAbx (addr : Word)
  | ldaAbx (addr : Word)
  | ldxAby (addr : Word)
  | laxAby (addr : Word)
  | cpyImm (v : Byte)
  | cmpIzx (z : Byte)
  | nopImmC2 (v : Byte)
  | dcpIzx (z : Byte)
  | cpyZp (z : Byte)
  | cmpZp (z : Byte)
  | decZp (z : Byte)
  | dcpZp (z : Byte)
  | cmpImm (v : Byte)
  | sbx (v : Byte)
  | cpyAbs (addr : Word)
  | cmpAbs (addr : Word)
  | decAbs (addr : Word)
  | dcpAbs (addr : Word)
  | bne (off : Byte)
  | cmpIzy (z : Byte)
  | dcpIzy (z : Byte)
  | nopZpxD4 (z : Byte)
  | cmpZpx (z : Byte)
  | decZpx (z : Byte)
  | dcpZpx (z : Byte)
  | cmpAby (addr : Word)
  | dcpAby (addr : Word)
  | nopAbxDC (addr : Word)
  | cmpAbx (addr : Word)
  | decAbx (addr : Word)
  | dcpAbx (addr : Word)
  | cpxImm (v : Byte)
  | sbcIzx (z : Byte)
  | nopImmE2 (v : Byte)
  | iscIzx (z : Byte)
  | cpxZp (z : Byte)
  | sbcZp (z : Byte)
  | incZp (z : Byte)
  | iscZp (z : Byte)
  | sbcImm (v : Byte)
  | sbcImmEB (v : Byte)
  | cpxAbs (addr : Word)
  | sbcAbs (addr : Word)
  | incAbs (addr : Word)
  | iscAbs (addr : Word)
  | beq (off : Byte)
  | sbcIzy (z : Byte)
  | iscIzy (z : Byte)
  | nopZpxF4 (z : Byte)
  | sbcZpx (z : Byte)
  | incZpx (z : Byte)
  | iscZpx (z : Byte)
  | sbcAby (addr : Word)
  | iscAby (addr : Word)
  | nopAbxFC (addr : Word)
  | sbcAbx (addr : Word)
  | incAbx (addr : Word)
  | iscAbx (addr : Word)
  | brk
  | jam02
  | php
  | aslAcc
  | jam12
  | clc
  | nopImp1A
  | jam22
  | plp
  | rolAcc
  | jam32
  | sec
  | nopImp3A
  | rti
  | jam42
  | pha
  | lsrAcc
  | jam52
  | cli
  | nopImp5A
  | rts
  | jam62
  | pla
  | rorAcc
  | jam72
  | sei
  | nopImp7A
  | dey
  | txa
  | jam92
  | tya
  | txs
  | tay
  | tax
  | jamB2
  | clv
  | tsx
  | iny
  | dex
  | jamD2
  | cld
  | nopImpDA
  | inx
  | nopImp
  | jamF2
  | sed
  | nopImpFA
  deriving DecidableEq, Repr

end Sys2Proof
end

