-- ==== Sys2Proof/Decode.lean ====
section
/-! DEFINITION. Encoding and decoding (spec/30_encoding.md): byte order, the table row of every instruction, the encoder, the
opcode map, the decoder. The map (256 entries by opcode, R116) and the rows (by constructor, spec/opcode_table.json) are
written apart, so that decoding what was encoded says something. -/

namespace Sys2Proof

/-- `hi(w)`, bits 15 to 8 (R9). -/
def hi (w : Word) : Byte := w.extractLsb' 8 8

/-- `lo(w)`, bits 7 to 0 (R9). -/
def lo (w : Word) : Byte := w.extractLsb' 0 8

/-- `{h, l}`, the word with high byte `h` and low byte `l` (R9). -/
def word (h l : Byte) : Word := h ++ l

/-- `zext_16(v)`: the byte with high byte 0 (R10). -/
def zext16 (v : Byte) : Word := word 0#8 v

/-- `sext_8(v)` as a 16-bit addend: the byte as a two's-complement number (R10). -/
def sext16 (v : Byte) : Word := v.signExtend 16

/-- One row of spec/opcode_table.json: opcode, mnemonic, mode with operand, base cycles, page penalty (R116, R123). -/
structure Row where
  opcode : Byte
  mnemonic : Mnemonic
  operand : Operand
  cycles : Nat
  penalty : Bool
  deriving DecidableEq, Repr

/-- The row of every instruction (spec/opcode_table.json; R116 to R118, R120). `cycles` is CYCLE_TABLE's default (R7). A JAM row has no cycle count; its 0 is never
reported (R312). -/
def Instr.row : Instr → Row
  | .brk => ⟨0x00, .brk, .imp, 7, false⟩
  | .oraIzx z => ⟨0x01, .ora, .izx z, 6, false⟩
  | .jam02 => ⟨0x02, .jam, .inv, 0, false⟩
  | .sloIzx z => ⟨0x03, .slo, .izx z, 8, false⟩
  | .nopZp04 z => ⟨0x04, .nop, .zp z, 3, false⟩
  | .oraZp z => ⟨0x05, .ora, .zp z, 3, false⟩
  | .aslZp z => ⟨0x06, .asl, .zp z, 5, false⟩
  | .sloZp z => ⟨0x07, .slo, .zp z, 5, false⟩
  | .php => ⟨0x08, .php, .imp, 3, false⟩
  | .oraImm v => ⟨0x09, .ora, .imm v, 2, false⟩
  | .aslAcc => ⟨0x0A, .asl, .acc, 2, false⟩
  | .ancImm0B v => ⟨0x0B, .anc, .imm v, 2, false⟩
  | .nopAbs addr => ⟨0x0C, .nop, .abs addr, 4, false⟩
  | .oraAbs addr => ⟨0x0D, .ora, .abs addr, 4, false⟩
  | .aslAbs addr => ⟨0x0E, .asl, .abs addr, 6, false⟩
  | .sloAbs addr => ⟨0x0F, .slo, .abs addr, 6, false⟩
  | .bpl off => ⟨0x10, .bpl, .rel off, 2, false⟩
  | .oraIzy z => ⟨0x11, .ora, .izy z, 5, true⟩
  | .jam12 => ⟨0x12, .jam, .inv, 0, false⟩
  | .sloIzy z => ⟨0x13, .slo, .izy z, 8, false⟩
  | .nopZpx14 z => ⟨0x14, .nop, .zpx z, 4, false⟩
  | .oraZpx z => ⟨0x15, .ora, .zpx z, 4, false⟩
  | .aslZpx z => ⟨0x16, .asl, .zpx z, 6, false⟩
  | .sloZpx z => ⟨0x17, .slo, .zpx z, 6, false⟩
  | .clc => ⟨0x18, .clc, .imp, 2, false⟩
  | .oraAby addr => ⟨0x19, .ora, .aby addr, 4, true⟩
  | .nopImp1A => ⟨0x1A, .nop, .imp, 2, false⟩
  | .sloAby addr => ⟨0x1B, .slo, .aby addr, 7, false⟩
  | .nopAbx1C addr => ⟨0x1C, .nop, .abx addr, 4, true⟩
  | .oraAbx addr => ⟨0x1D, .ora, .abx addr, 4, true⟩
  | .aslAbx addr => ⟨0x1E, .asl, .abx addr, 7, false⟩
  | .sloAbx addr => ⟨0x1F, .slo, .abx addr, 7, false⟩
  | .jsr addr => ⟨0x20, .jsr, .abs addr, 6, false⟩
  | .andIzx z => ⟨0x21, .and, .izx z, 6, false⟩
  | .jam22 => ⟨0x22, .jam, .inv, 0, false⟩
  | .rlaIzx z => ⟨0x23, .rla, .izx z, 8, false⟩
  | .bitZp z => ⟨0x24, .bit, .zp z, 3, false⟩
  | .andZp z => ⟨0x25, .and, .zp z, 3, false⟩
  | .rolZp z => ⟨0x26, .rol, .zp z, 5, false⟩
  | .rlaZp z => ⟨0x27, .rla, .zp z, 5, false⟩
  | .plp => ⟨0x28, .plp, .imp, 4, false⟩
  | .andImm v => ⟨0x29, .and, .imm v, 2, false⟩
  | .rolAcc => ⟨0x2A, .rol, .acc, 2, false⟩
  | .ancImm2B v => ⟨0x2B, .anc, .imm v, 2, false⟩
  | .bitAbs addr => ⟨0x2C, .bit, .abs addr, 4, false⟩
  | .andAbs addr => ⟨0x2D, .and, .abs addr, 4, false⟩
  | .rolAbs addr => ⟨0x2E, .rol, .abs addr, 6, false⟩
  | .rlaAbs addr => ⟨0x2F, .rla, .abs addr, 6, false⟩
  | .bmi off => ⟨0x30, .bmi, .rel off, 2, false⟩
  | .andIzy z => ⟨0x31, .and, .izy z, 5, true⟩
  | .jam32 => ⟨0x32, .jam, .inv, 0, false⟩
  | .rlaIzy z => ⟨0x33, .rla, .izy z, 8, false⟩
  | .nopZpx34 z => ⟨0x34, .nop, .zpx z, 4, false⟩
  | .andZpx z => ⟨0x35, .and, .zpx z, 4, false⟩
  | .rolZpx z => ⟨0x36, .rol, .zpx z, 6, false⟩
  | .rlaZpx z => ⟨0x37, .rla, .zpx z, 6, false⟩
  | .sec => ⟨0x38, .sec, .imp, 2, false⟩
  | .andAby addr => ⟨0x39, .and, .aby addr, 4, true⟩
  | .nopImp3A => ⟨0x3A, .nop, .imp, 2, false⟩
  | .rlaAby addr => ⟨0x3B, .rla, .aby addr, 7, false⟩
  | .nopAbx3C addr => ⟨0x3C, .nop, .abx addr, 4, true⟩
  | .andAbx addr => ⟨0x3D, .and, .abx addr, 4, true⟩
  | .rolAbx addr => ⟨0x3E, .rol, .abx addr, 7, false⟩
  | .rlaAbx addr => ⟨0x3F, .rla, .abx addr, 7, false⟩
  | .rti => ⟨0x40, .rti, .imp, 6, false⟩
  | .eorIzx z => ⟨0x41, .eor, .izx z, 6, false⟩
  | .jam42 => ⟨0x42, .jam, .inv, 0, false⟩
  | .sreIzx z => ⟨0x43, .sre, .izx z, 8, false⟩
  | .nopZp44 z => ⟨0x44, .nop, .zp z, 3, false⟩
  | .eorZp z => ⟨0x45, .eor, .zp z, 3, false⟩
  | .lsrZp z => ⟨0x46, .lsr, .zp z, 5, false⟩
  | .sreZp z => ⟨0x47, .sre, .zp z, 5, false⟩
  | .pha => ⟨0x48, .pha, .imp, 3, false⟩
  | .eorImm v => ⟨0x49, .eor, .imm v, 2, false⟩
  | .lsrAcc => ⟨0x4A, .lsr, .acc, 2, false⟩
  | .alr v => ⟨0x4B, .alr, .imm v, 2, false⟩
  | .jmpAbs addr => ⟨0x4C, .jmp, .abs addr, 3, false⟩
  | .eorAbs addr => ⟨0x4D, .eor, .abs addr, 4, false⟩
  | .lsrAbs addr => ⟨0x4E, .lsr, .abs addr, 6, false⟩
  | .sreAbs addr => ⟨0x4F, .sre, .abs addr, 6, false⟩
  | .bvc off => ⟨0x50, .bvc, .rel off, 2, false⟩
  | .eorIzy z => ⟨0x51, .eor, .izy z, 5, true⟩
  | .jam52 => ⟨0x52, .jam, .inv, 0, false⟩
  | .sreIzy z => ⟨0x53, .sre, .izy z, 8, false⟩
  | .nopZpx54 z => ⟨0x54, .nop, .zpx z, 4, false⟩
  | .eorZpx z => ⟨0x55, .eor, .zpx z, 4, false⟩
  | .lsrZpx z => ⟨0x56, .lsr, .zpx z, 6, false⟩
  | .sreZpx z => ⟨0x57, .sre, .zpx z, 6, false⟩
  | .cli => ⟨0x58, .cli, .imp, 2, false⟩
  | .eorAby addr => ⟨0x59, .eor, .aby addr, 4, true⟩
  | .nopImp5A => ⟨0x5A, .nop, .imp, 2, false⟩
  | .sreAby addr => ⟨0x5B, .sre, .aby addr, 7, false⟩
  | .nopAbx5C addr => ⟨0x5C, .nop, .abx addr, 4, true⟩
  | .eorAbx addr => ⟨0x5D, .eor, .abx addr, 4, true⟩
  | .lsrAbx addr => ⟨0x5E, .lsr, .abx addr, 7, false⟩
  | .sreAbx addr => ⟨0x5F, .sre, .abx addr, 7, false⟩
  | .rts => ⟨0x60, .rts, .imp, 6, false⟩
  | .adcIzx z => ⟨0x61, .adc, .izx z, 6, false⟩
  | .jam62 => ⟨0x62, .jam, .inv, 0, false⟩
  | .rraIzx z => ⟨0x63, .rra, .izx z, 8, false⟩
  | .nopZp64 z => ⟨0x64, .nop, .zp z, 3, false⟩
  | .adcZp z => ⟨0x65, .adc, .zp z, 3, false⟩
  | .rorZp z => ⟨0x66, .ror, .zp z, 5, false⟩
  | .rraZp z => ⟨0x67, .rra, .zp z, 5, false⟩
  | .pla => ⟨0x68, .pla, .imp, 4, false⟩
  | .adcImm v => ⟨0x69, .adc, .imm v, 2, false⟩
  | .rorAcc => ⟨0x6A, .ror, .acc, 2, false⟩
  | .arr v => ⟨0x6B, .arr, .imm v, 2, false⟩
  | .jmpInd ptr => ⟨0x6C, .jmp, .ind ptr, 5, false⟩
  | .adcAbs addr => ⟨0x6D, .adc, .abs addr, 4, false⟩
  | .rorAbs addr => ⟨0x6E, .ror, .abs addr, 6, false⟩
  | .rraAbs addr => ⟨0x6F, .rra, .abs addr, 6, false⟩
  | .bvs off => ⟨0x70, .bvs, .rel off, 2, false⟩
  | .adcIzy z => ⟨0x71, .adc, .izy z, 5, true⟩
  | .jam72 => ⟨0x72, .jam, .inv, 0, false⟩
  | .rraIzy z => ⟨0x73, .rra, .izy z, 8, false⟩
  | .nopZpx74 z => ⟨0x74, .nop, .zpx z, 4, false⟩
  | .adcZpx z => ⟨0x75, .adc, .zpx z, 4, false⟩
  | .rorZpx z => ⟨0x76, .ror, .zpx z, 6, false⟩
  | .rraZpx z => ⟨0x77, .rra, .zpx z, 6, false⟩
  | .sei => ⟨0x78, .sei, .imp, 2, false⟩
  | .adcAby addr => ⟨0x79, .adc, .aby addr, 4, true⟩
  | .nopImp7A => ⟨0x7A, .nop, .imp, 2, false⟩
  | .rraAby addr => ⟨0x7B, .rra, .aby addr, 7, false⟩
  | .nopAbx7C addr => ⟨0x7C, .nop, .abx addr, 4, true⟩
  | .adcAbx addr => ⟨0x7D, .adc, .abx addr, 4, true⟩
  | .rorAbx addr => ⟨0x7E, .ror, .abx addr, 7, false⟩
  | .rraAbx addr => ⟨0x7F, .rra, .abx addr, 7, false⟩
  | .nopImm80 v => ⟨0x80, .nop, .imm v, 2, false⟩
  | .staIzx z => ⟨0x81, .sta, .izx z, 6, false⟩
  | .nopImm82 v => ⟨0x82, .nop, .imm v, 2, false⟩
  | .saxIzx z => ⟨0x83, .sax, .izx z, 6, false⟩
  | .styZp z => ⟨0x84, .sty, .zp z, 3, false⟩
  | .staZp z => ⟨0x85, .sta, .zp z, 3, false⟩
  | .stxZp z => ⟨0x86, .stx, .zp z, 3, false⟩
  | .saxZp z => ⟨0x87, .sax, .zp z, 3, false⟩
  | .dey => ⟨0x88, .dey, .imp, 2, false⟩
  | .nopImm89 v => ⟨0x89, .nop, .imm v, 2, false⟩
  | .txa => ⟨0x8A, .txa, .imp, 2, false⟩
  | .ane v => ⟨0x8B, .ane, .imm v, 2, false⟩
  | .styAbs addr => ⟨0x8C, .sty, .abs addr, 4, false⟩
  | .staAbs addr => ⟨0x8D, .sta, .abs addr, 4, false⟩
  | .stxAbs addr => ⟨0x8E, .stx, .abs addr, 4, false⟩
  | .saxAbs addr => ⟨0x8F, .sax, .abs addr, 4, false⟩
  | .bcc off => ⟨0x90, .bcc, .rel off, 2, false⟩
  | .staIzy z => ⟨0x91, .sta, .izy z, 6, false⟩
  | .jam92 => ⟨0x92, .jam, .inv, 0, false⟩
  | .shaIzy z => ⟨0x93, .sha, .izy z, 6, false⟩
  | .styZpx z => ⟨0x94, .sty, .zpx z, 4, false⟩
  | .staZpx z => ⟨0x95, .sta, .zpx z, 4, false⟩
  | .stxZpy z => ⟨0x96, .stx, .zpy z, 4, false⟩
  | .saxZpy z => ⟨0x97, .sax, .zpy z, 4, false⟩
  | .tya => ⟨0x98, .tya, .imp, 2, false⟩
  | .staAby addr => ⟨0x99, .sta, .aby addr, 5, false⟩
  | .txs => ⟨0x9A, .txs, .imp, 2, false⟩
  | .tas addr => ⟨0x9B, .tas, .aby addr, 5, false⟩
  | .shy addr => ⟨0x9C, .shy, .abx addr, 5, false⟩
  | .staAbx addr => ⟨0x9D, .sta, .abx addr, 5, false⟩
  | .shx addr => ⟨0x9E, .shx, .aby addr, 5, false⟩
  | .shaAby addr => ⟨0x9F, .sha, .aby addr, 5, false⟩
  | .ldyImm v => ⟨0xA0, .ldy, .imm v, 2, false⟩
  | .ldaIzx z => ⟨0xA1, .lda, .izx z, 6, false⟩
  | .ldxImm v => ⟨0xA2, .ldx, .imm v, 2, false⟩
  | .laxIzx z => ⟨0xA3, .lax, .izx z, 6, false⟩
  | .ldyZp z => ⟨0xA4, .ldy, .zp z, 3, false⟩
  | .ldaZp z => ⟨0xA5, .lda, .zp z, 3, false⟩
  | .ldxZp z => ⟨0xA6, .ldx, .zp z, 3, false⟩
  | .laxZp z => ⟨0xA7, .lax, .zp z, 3, false⟩
  | .tay => ⟨0xA8, .tay, .imp, 2, false⟩
  | .ldaImm v => ⟨0xA9, .lda, .imm v, 2, false⟩
  | .tax => ⟨0xAA, .tax, .imp, 2, false⟩
  | .lxa v => ⟨0xAB, .lxa, .imm v, 2, false⟩
  | .ldyAbs addr => ⟨0xAC, .ldy, .abs addr, 4, false⟩
  | .ldaAbs addr => ⟨0xAD, .lda, .abs addr, 4, false⟩
  | .ldxAbs addr => ⟨0xAE, .ldx, .abs addr, 4, false⟩
  | .laxAbs addr => ⟨0xAF, .lax, .abs addr, 4, false⟩
  | .bcs off => ⟨0xB0, .bcs, .rel off, 2, false⟩
  | .ldaIzy z => ⟨0xB1, .lda, .izy z, 5, true⟩
  | .jamB2 => ⟨0xB2, .jam, .inv, 0, false⟩
  | .laxIzy z => ⟨0xB3, .lax, .izy z, 5, true⟩
  | .ldyZpx z => ⟨0xB4, .ldy, .zpx z, 4, false⟩
  | .ldaZpx z => ⟨0xB5, .lda, .zpx z, 4, false⟩
  | .ldxZpy z => ⟨0xB6, .ldx, .zpy z, 4, false⟩
  | .laxZpy z => ⟨0xB7, .lax, .zpy z, 4, false⟩
  | .clv => ⟨0xB8, .clv, .imp, 2, false⟩
  | .ldaAby addr => ⟨0xB9, .lda, .aby addr, 4, true⟩
  | .tsx => ⟨0xBA, .tsx, .imp, 2, false⟩
  | .las addr => ⟨0xBB, .las, .aby addr, 4, true⟩
  | .ldyAbx addr => ⟨0xBC, .ldy, .abx addr, 4, true⟩
  | .ldaAbx addr => ⟨0xBD, .lda, .abx addr, 4, true⟩
  | .ldxAby addr => ⟨0xBE, .ldx, .aby addr, 4, true⟩
  | .laxAby addr => ⟨0xBF, .lax, .aby addr, 4, true⟩
  | .cpyImm v => ⟨0xC0, .cpy, .imm v, 2, false⟩
  | .cmpIzx z => ⟨0xC1, .cmp, .izx z, 6, false⟩
  | .nopImmC2 v => ⟨0xC2, .nop, .imm v, 2, false⟩
  | .dcpIzx z => ⟨0xC3, .dcp, .izx z, 8, false⟩
  | .cpyZp z => ⟨0xC4, .cpy, .zp z, 3, false⟩
  | .cmpZp z => ⟨0xC5, .cmp, .zp z, 3, false⟩
  | .decZp z => ⟨0xC6, .dec, .zp z, 5, false⟩
  | .dcpZp z => ⟨0xC7, .dcp, .zp z, 5, false⟩
  | .iny => ⟨0xC8, .iny, .imp, 2, false⟩
  | .cmpImm v => ⟨0xC9, .cmp, .imm v, 2, false⟩
  | .dex => ⟨0xCA, .dex, .imp, 2, false⟩
  | .sbx v => ⟨0xCB, .sbx, .imm v, 2, false⟩
  | .cpyAbs addr => ⟨0xCC, .cpy, .abs addr, 4, false⟩
  | .cmpAbs addr => ⟨0xCD, .cmp, .abs addr, 4, false⟩
  | .decAbs addr => ⟨0xCE, .dec, .abs addr, 6, false⟩
  | .dcpAbs addr => ⟨0xCF, .dcp, .abs addr, 6, false⟩
  | .bne off => ⟨0xD0, .bne, .rel off, 2, false⟩
  | .cmpIzy z => ⟨0xD1, .cmp, .izy z, 5, true⟩
  | .jamD2 => ⟨0xD2, .jam, .inv, 0, false⟩
  | .dcpIzy z => ⟨0xD3, .dcp, .izy z, 8, false⟩
  | .nopZpxD4 z => ⟨0xD4, .nop, .zpx z, 4, false⟩
  | .cmpZpx z => ⟨0xD5, .cmp, .zpx z, 4, false⟩
  | .decZpx z => ⟨0xD6, .dec, .zpx z, 6, false⟩
  | .dcpZpx z => ⟨0xD7, .dcp, .zpx z, 6, false⟩
  | .cld => ⟨0xD8, .cld, .imp, 2, false⟩
  | .cmpAby addr => ⟨0xD9, .cmp, .aby addr, 4, true⟩
  | .nopImpDA => ⟨0xDA, .nop, .imp, 2, false⟩
  | .dcpAby addr => ⟨0xDB, .dcp, .aby addr, 7, false⟩
  | .nopAbxDC addr => ⟨0xDC, .nop, .abx addr, 4, true⟩
  | .cmpAbx addr => ⟨0xDD, .cmp, .abx addr, 4, true⟩
  | .decAbx addr => ⟨0xDE, .dec, .abx addr, 7, false⟩
  | .dcpAbx addr => ⟨0xDF, .dcp, .abx addr, 7, false⟩
  | .cpxImm v => ⟨0xE0, .cpx, .imm v, 2, false⟩
  | .sbcIzx z => ⟨0xE1, .sbc, .izx z, 6, false⟩
  | .nopImmE2 v => ⟨0xE2, .nop, .imm v, 2, false⟩
  | .iscIzx z => ⟨0xE3, .isc, .izx z, 8, false⟩
  | .cpxZp z => ⟨0xE4, .cpx, .zp z, 3, false⟩
  | .sbcZp z => ⟨0xE5, .sbc, .zp z, 3, false⟩
  | .incZp z => ⟨0xE6, .inc, .zp z, 5, false⟩
  | .iscZp z => ⟨0xE7, .isc, .zp z, 5, false⟩
  | .inx => ⟨0xE8, .inx, .imp, 2, false⟩
  | .sbcImm v => ⟨0xE9, .sbc, .imm v, 2, false⟩
  | .nopImp => ⟨0xEA, .nop, .imp, 2, false⟩
  | .sbcImmEB v => ⟨0xEB, .sbc, .imm v, 2, false⟩
  | .cpxAbs addr => ⟨0xEC, .cpx, .abs addr, 4, false⟩
  | .sbcAbs addr => ⟨0xED, .sbc, .abs addr, 4, false⟩
  | .incAbs addr => ⟨0xEE, .inc, .abs addr, 6, false⟩
  | .iscAbs addr => ⟨0xEF, .isc, .abs addr, 6, false⟩
  | .beq off => ⟨0xF0, .beq, .rel off, 2, false⟩
  | .sbcIzy z => ⟨0xF1, .sbc, .izy z, 5, true⟩
  | .jamF2 => ⟨0xF2, .jam, .inv, 0, false⟩
  | .iscIzy z => ⟨0xF3, .isc, .izy z, 8, false⟩
  | .nopZpxF4 z => ⟨0xF4, .nop, .zpx z, 4, false⟩
  | .sbcZpx z => ⟨0xF5, .sbc, .zpx z, 4, false⟩
  | .incZpx z => ⟨0xF6, .inc, .zpx z, 6, false⟩
  | .iscZpx z => ⟨0xF7, .isc, .zpx z, 6, false⟩
  | .sed => ⟨0xF8, .sed, .imp, 2, false⟩
  | .sbcAby addr => ⟨0xF9, .sbc, .aby addr, 4, true⟩
  | .nopImpFA => ⟨0xFA, .nop, .imp, 2, false⟩
  | .iscAby addr => ⟨0xFB, .isc, .aby addr, 7, false⟩
  | .nopAbxFC addr => ⟨0xFC, .nop, .abx addr, 4, true⟩
  | .sbcAbx addr => ⟨0xFD, .sbc, .abx addr, 4, true⟩
  | .incAbx addr => ⟨0xFE, .inc, .abx addr, 7, false⟩
  | .iscAbx addr => ⟨0xFF, .isc, .abx addr, 7, false⟩

/-- The instruction's opcode byte. -/
def Instr.opcode (i : Instr) : Byte := i.row.opcode

/-- The instruction's mnemonic. -/
def Instr.mnemonic (i : Instr) : Mnemonic := i.row.mnemonic

/-- The instruction's addressing mode and operand. -/
def Instr.operand (i : Instr) : Operand := i.row.operand

/-- The length a mode fixes, in bytes: one opcode byte and the operand bytes (R112, R113). -/
def Operand.size : Operand → Nat
  | .imp | .acc | .inv => 1
  | .imm _ | .zp _ | .zpx _ | .zpy _ | .izx _ | .izy _ | .rel _ => 2
  | .abs _ | .abx _ | .aby _ | .ind _ => 3

/-- The instruction's length in bytes (R114). -/
def Instr.size (i : Instr) : Nat := i.operand.size

/-- The operand bytes in the order they are stored, the low byte of an address first (R61, R112). -/
def Operand.bytes : Operand → List Byte
  | .imp | .acc | .inv => []
  | .imm b | .zp b | .zpx b | .zpy b | .izx b | .izy b | .rel b => [b]
  | .abs w | .abx w | .aby w | .ind w => [lo w, hi w]

/-- The bytes of an instruction, lowest address first (R112). -/
def encode (i : Instr) : List Byte := i.opcode :: i.operand.bytes

/-- What an opcode byte asks for: no operand byte (format F1), one (F2), or two (F3) (R112). -/
inductive Template where
  | one (i : Instr)
  | two (f : Byte → Instr)
  | three (f : Word → Instr)

/-- Row 0x of the opcode map (R116). -/
def mapRow0 : List Template :=
  [.one .brk, .two .oraIzx, .one .jam02, .two .sloIzx,
   .two .nopZp04, .two .oraZp, .two .aslZp, .two .sloZp,
   .one .php, .two .oraImm, .one .aslAcc, .two .ancImm0B,
   .three .nopAbs, .three .oraAbs, .three .aslAbs, .three .sloAbs]

/-- Row 1x of the opcode map (R116). -/
def mapRow1 : List Template :=
  [.two .bpl, .two .oraIzy, .one .jam12, .two .sloIzy,
   .two .nopZpx14, .two .oraZpx, .two .aslZpx, .two .sloZpx,
   .one .clc, .three .oraAby, .one .nopImp1A, .three .sloAby,
   .three .nopAbx1C, .three .oraAbx, .three .aslAbx, .three .sloAbx]

/-- Row 2x of the opcode map (R116). -/
def mapRow2 : List Template :=
  [.three .jsr, .two .andIzx, .one .jam22, .two .rlaIzx,
   .two .bitZp, .two .andZp, .two .rolZp, .two .rlaZp,
   .one .plp, .two .andImm, .one .rolAcc, .two .ancImm2B,
   .three .bitAbs, .three .andAbs, .three .rolAbs, .three .rlaAbs]

/-- Row 3x of the opcode map (R116). -/
def mapRow3 : List Template :=
  [.two .bmi, .two .andIzy, .one .jam32, .two .rlaIzy,
   .two .nopZpx34, .two .andZpx, .two .rolZpx, .two .rlaZpx,
   .one .sec, .three .andAby, .one .nopImp3A, .three .rlaAby,
   .three .nopAbx3C, .three .andAbx, .three .rolAbx, .three .rlaAbx]

/-- Row 4x of the opcode map (R116). -/
def mapRow4 : List Template :=
  [.one .rti, .two .eorIzx, .one .jam42, .two .sreIzx,
   .two .nopZp44, .two .eorZp, .two .lsrZp, .two .sreZp,
   .one .pha, .two .eorImm, .one .lsrAcc, .two .alr,
   .three .jmpAbs, .three .eorAbs, .three .lsrAbs, .three .sreAbs]

/-- Row 5x of the opcode map (R116). -/
def mapRow5 : List Template :=
  [.two .bvc, .two .eorIzy, .one .jam52, .two .sreIzy,
   .two .nopZpx54, .two .eorZpx, .two .lsrZpx, .two .sreZpx,
   .one .cli, .three .eorAby, .one .nopImp5A, .three .sreAby,
   .three .nopAbx5C, .three .eorAbx, .three .lsrAbx, .three .sreAbx]

/-- Row 6x of the opcode map (R116). -/
def mapRow6 : List Template :=
  [.one .rts, .two .adcIzx, .one .jam62, .two .rraIzx,
   .two .nopZp64, .two .adcZp, .two .rorZp, .two .rraZp,
   .one .pla, .two .adcImm, .one .rorAcc, .two .arr,
   .three .jmpInd, .three .adcAbs, .three .rorAbs, .three .rraAbs]

/-- Row 7x of the opcode map (R116). -/
def mapRow7 : List Template :=
  [.two .bvs, .two .adcIzy, .one .jam72, .two .rraIzy,
   .two .nopZpx74, .two .adcZpx, .two .rorZpx, .two .rraZpx,
   .one .sei, .three .adcAby, .one .nopImp7A, .three .rraAby,
   .three .nopAbx7C, .three .adcAbx, .three .rorAbx, .three .rraAbx]

/-- Row 8x of the opcode map (R116). -/
def mapRow8 : List Template :=
  [.two .nopImm80, .two .staIzx, .two .nopImm82, .two .saxIzx,
   .two .styZp, .two .staZp, .two .stxZp, .two .saxZp,
   .one .dey, .two .nopImm89, .one .txa, .two .ane,
   .three .styAbs, .three .staAbs, .three .stxAbs, .three .saxAbs]

/-- Row 9x of the opcode map (R116). -/
def mapRow9 : List Template :=
  [.two .bcc, .two .staIzy, .one .jam92, .two .shaIzy,
   .two .styZpx, .two .staZpx, .two .stxZpy, .two .saxZpy,
   .one .tya, .three .staAby, .one .txs, .three .tas,
   .three .shy, .three .staAbx, .three .shx, .three .shaAby]

/-- Row Ax of the opcode map (R116). -/
def mapRowA : List Template :=
  [.two .ldyImm, .two .ldaIzx, .two .ldxImm, .two .laxIzx,
   .two .ldyZp, .two .ldaZp, .two .ldxZp, .two .laxZp,
   .one .tay, .two .ldaImm, .one .tax, .two .lxa,
   .three .ldyAbs, .three .ldaAbs, .three .ldxAbs, .three .laxAbs]

/-- Row Bx of the opcode map (R116). -/
def mapRowB : List Template :=
  [.two .bcs, .two .ldaIzy, .one .jamB2, .two .laxIzy,
   .two .ldyZpx, .two .ldaZpx, .two .ldxZpy, .two .laxZpy,
   .one .clv, .three .ldaAby, .one .tsx, .three .las,
   .three .ldyAbx, .three .ldaAbx, .three .ldxAby, .three .laxAby]

/-- Row Cx of the opcode map (R116). -/
def mapRowC : List Template :=
  [.two .cpyImm, .two .cmpIzx, .two .nopImmC2, .two .dcpIzx,
   .two .cpyZp, .two .cmpZp, .two .decZp, .two .dcpZp,
   .one .iny, .two .cmpImm, .one .dex, .two .sbx,
   .three .cpyAbs, .three .cmpAbs, .three .decAbs, .three .dcpAbs]

/-- Row Dx of the opcode map (R116). -/
def mapRowD : List Template :=
  [.two .bne, .two .cmpIzy, .one .jamD2, .two .dcpIzy,
   .two .nopZpxD4, .two .cmpZpx, .two .decZpx, .two .dcpZpx,
   .one .cld, .three .cmpAby, .one .nopImpDA, .three .dcpAby,
   .three .nopAbxDC, .three .cmpAbx, .three .decAbx, .three .dcpAbx]

/-- Row Ex of the opcode map (R116). -/
def mapRowE : List Template :=
  [.two .cpxImm, .two .sbcIzx, .two .nopImmE2, .two .iscIzx,
   .two .cpxZp, .two .sbcZp, .two .incZp, .two .iscZp,
   .one .inx, .two .sbcImm, .one .nopImp, .two .sbcImmEB,
   .three .cpxAbs, .three .sbcAbs, .three .incAbs, .three .iscAbs]

/-- Row Fx of the opcode map (R116). -/
def mapRowF : List Template :=
  [.two .beq, .two .sbcIzy, .one .jamF2, .two .iscIzy,
   .two .nopZpxF4, .two .sbcZpx, .two .incZpx, .two .iscZpx,
   .one .sed, .three .sbcAby, .one .nopImpFA, .three .iscAby,
   .three .nopAbxFC, .three .sbcAbx, .three .incAbx, .three .iscAbx]

/-- The rows of the opcode map, by the high nibble of the opcode (R116). -/
def opcodeMap : List (List Template) :=
  [mapRow0, mapRow1, mapRow2, mapRow3, mapRow4, mapRow5, mapRow6, mapRow7] ++
  [mapRow8, mapRow9, mapRowA, mapRowB, mapRowC, mapRowD, mapRowE, mapRowF]

/-- The opcode's entry: a single lookup on the whole byte (R111). The map is full, so that the default is never used. -/
def template (op : Byte) : Template :=
  ((opcodeMap.getD (op.toNat / 16) []).getD (op.toNat % 16) (.one .nopImp))

/-- Why a list of bytes holds no instruction. Every opcode byte decodes (R119), so only bytes can be missing. -/
inductive DecodeError where
  /-- There is no opcode byte. -/
  | empty
  /-- The opcode asks for more operand bytes than follow it. -/
  | truncated
  deriving DecidableEq, Repr

/-- The instruction at the head of a list of bytes and the bytes after it (R112 to R115). -/
def decode : List Byte → Except DecodeError (Instr × List Byte)
  | [] => .error .empty
  | op :: rest =>
    match template op, rest with
    | .one i, rest => .ok (i, rest)
    | .two f, b1 :: rest => .ok (f b1, rest)
    | .three f, b1 :: b2 :: rest => .ok (f (word b2 b1), rest)
    | _, _ => .error .truncated

/-- The three bytes of an instruction whose bits are numbered as spec/opcode_table.json numbers them (byte 0 in bits 7 to 0),
with every bit above `nbits` zero. -/
def tableBytes (nbits w : Nat) : List Byte :=
  let v := w % 2 ^ nbits
  [BitVec.ofNat 8 v, BitVec.ofNat 8 (v / 2 ^ 8), BitVec.ofNat 8 (v / 2 ^ 16)]

/-- The instruction the decoder reads from a word numbered as the opcode table numbers it. -/
def decodeTableWord (nbits w : Nat) : Option Instr :=
  match decode (tableBytes nbits w) with
  | .ok (i, _) => some i
  | .error _ => none

end Sys2Proof
end

