-- ==== Sys2Proof/Machine/State.lean ====
section
/-! DEFINITION. The machine's state as plain data, and the state after reset (spec/10_state.md). -/

namespace Sys2Proof.Machine

/-- A store of bytes: the bytes written so far, by address. Canonical form: addresses strictly rising. An unlisted address
has not been written; what it reads as is `ramByte` for RAM and the free bytes of Config for a ROM image. Log 2, 3. -/
abbrev Memory := List Host.Cell

/-- The bits of P (R25). -/
inductive Flag where
  | c | z | i | d | b | u | v | n
  deriving DecidableEq, Repr

/-- The eight regions of the bank decoder (R64). -/
inductive Region where
  | ram | basicRom | kernalRom | charsetRom | cartRomLo | cartRomHi | ioDevices | undefined
  deriving DecidableEq, Repr

/-- The bank latch (R31): three bits from the control byte, and the two cartridge-port input lines (R33). -/
structure Latch where
  loram : Bool
  hiram : Bool
  charen : Bool
  game : Bool
  exrom : Bool
  deriving DecidableEq, Repr

/-- `CYCLE_TABLE` (R7, R120, D16): the base counts supplied, by opcode. Canonical form: opcodes strictly rising. An unlisted opcode
has the count of R116, `Instr.row`. Log 17. -/
abbrev CycleTable := List (Byte × Nat)

/-- What is fixed once, before the first reset (R7, R390 configure): the ROM images, as the bytes supplied, whether an external
device port is attached (R75), P after a reset, the base cycle counts. No instruction and no event changes it (R42). -/
structure Setup where
  basicRom : Memory
  kernalRom : Memory
  charRom : Memory
  devicePort : Bool
  resetP : ResetP
  cycleTable : CycleTable
  deriving DecidableEq, Repr

/-- What the last step request reported (R400, R331): nothing yet, a cycle count, or the halt signal -1. -/
inductive Report where
  | nothing
  | cycles (n : Nat)
  | halt
  deriving DecidableEq, Repr

/-- A register the host may write at an instruction boundary (R395). -/
inductive HostWrite where
  | a (v : Byte)
  | x (v : Byte)
  | y (v : Byte)
  | s (v : Byte)
  | p (v : Byte)
  | pc (v : Word)
  deriving DecidableEq, Repr

/-- One transition of the environment or of the core at an instruction boundary (R14, R390). -/
inductive Turn where
  /-- A step request with the hold input as given (R110, R352). -/
  | instr (hold : Bool)
  /-- An IRQ request (R337). -/
  | irq
  /-- An NMI request (R338). -/
  | nmi
  /-- A reset (R380). -/
  | reset
  /-- Several requests held for one boundary: reset, then NMI, then IRQ (R341, D13). -/
  | together (reset nmi irq : Bool)
  /-- The cartridge port drives GAME and EXROM (R33). -/
  | lines (game exrom : Bool)
  /-- A mapped host read (R391). -/
  | mappedRead (addr : Word)
  /-- A mapped host write (R391). -/
  | mappedWrite (addr : Word) (v : Byte)
  /-- A raw host write (R78, R391). -/
  | rawWrite (addr : Word) (v : Byte)
  /-- A host write of a register (R395). -/
  | setReg (w : HostWrite)
  /-- A program load: the file's bytes, and the addresses of the word pointers to patch (R392). -/
  | loadProgram (file : List Byte) (pointers : List Word)
  deriving DecidableEq, Repr

/-- The whole machine. The last four fields are the model's own: the environment's coming turns, what the device port has
seen, and the counters that name free values. -/
structure State where
  /-- A, the accumulator (R21). -/
  a : Byte
  /-- X, index register (R22). -/
  x : Byte
  /-- Y, index register (R22). -/
  y : Byte
  /-- S, the stack pointer (R23). -/
  sp : Byte
  /-- P, the status register, all eight bits (R25, R26). -/
  p : Byte
  /-- PC, the program counter (R24). -/
  pc : Word
  /-- The bank latch with GAME and EXROM (R31 to R33). -/
  latch : Latch
  /-- RAM, as the bytes written since reset (R37, R383). -/
  ram : Memory
  /-- The ROM images and the device port's presence (R37, R42, R75). -/
  setup : Setup
  /-- The halted flag (R38). -/
  halted : Bool
  /-- CYCLES (R39). -/
  cycles : Nat
  /-- What the last step request reported (R400). -/
  report : Report
  /-- The environment's turns to come, the next one first; none means plain steps with hold = 0 (R14, R352). Log 10. -/
  env : List Turn
  /-- Every access of the device port, oldest first (R76). Log 4. -/
  portLog : List PortAccess
  /-- How many resets before this one: names the RAM contents of `Config.ramInit` (R383). Log 2. -/
  epoch : Nat
  /-- How many unstable opcodes have drawn a free value (R290). Log 5, 6, 7. -/
  draws : Nat
  deriving DecidableEq, Repr

/-- Why the machine stops with a fault. None: R332 lists what raises nothing and says "a model must not invent a fault for
them", and Halt is a state of the machine, not a stop (R331). -/
inductive Fault where
  deriving DecidableEq, Repr

/-- Why the model has no meaning for an instruction. -/
inductive Refusal where
  /-- Raised by an arm of exec that has no meaning yet. No arm does. Safe. -/
  | notModelled (mnemonic : String)
  deriving DecidableEq, Repr

/-- What an instruction or a step answers. -/
abbrev Result := Host.Outcome State Fault Refusal

/-- The latch after reset with GAME = EXROM = 1 (R44, R382, D5; mode 31). -/
def Latch.reset : Latch := { loram := true, hiram := true, charen := true, game := true, exrom := true }

/-- Nothing supplied: every ROM byte is free. R7's defaults for the rest: a device port is attached (D11), RESET_P is $24 (D4), every
base count is R116's (D16). Log 3, 4, 8, 17. -/
def Setup.reset : Setup where
  basicRom := []
  kernalRom := []
  charRom := []
  devicePort := true
  resetP := .irqDisabled
  cycleTable := []

/-- The machine right after its first reset (R44, R380), with nothing supplied. The reset vector lies in the KERNAL image
(R44, last paragraph): PC is the word of its bytes $1FFC and $1FFD. -/
def State.reset : State where
  a := 0x00
  x := 0x00
  y := 0x00
  sp := 0xFD
  p := Config.resetP Setup.reset.resetP
  pc := Config.kernalRom 0x1FFD ++ Config.kernalRom 0x1FFC
  latch := Latch.reset
  ram := []
  setup := Setup.reset
  halted := false
  cycles := 0
  report := .nothing
  env := []
  portLog := []
  epoch := 0
  draws := 0

end Sys2Proof.Machine
end

