-- ==== Sys2Proof/Machine/Flags.lean ====
section
/-! DEFINITION. The bits of P (R25, R26) and every flag computation: SetNZ (R11), binary and decimal add and subtract (R200
to R203), compare (R204), the shifts and rotates (R230 to R233), ARR (R301). -/

namespace Sys2Proof.Machine

/-- The bit number of a flag (R25; the positions are the reference 6502's, log 9). -/
def Flag.index : Flag → Nat
  | .c => 0 | .z => 1 | .i => 2 | .d => 3 | .b => 4 | .u => 5 | .v => 6 | .n => 7

/-- The mask of a flag (R25). -/
def Flag.mask (f : Flag) : Byte := 1#8 <<< f.index

/-- A flag of P. -/
def getFlag (f : Flag) (p : Byte) : Bool := p.getLsbD f.index

/-- P with one flag written, the other seven bits as they were. -/
def putFlag (f : Flag) (b : Bool) (p : Byte) : Byte := if b then p ||| f.mask else p &&& ~~~ f.mask

/-- `SetNZ(v)` on P (R11): N from bit 7, Z when the byte is zero. -/
def putNZ (v p : Byte) : Byte := putFlag .z (v == 0) (putFlag .n (v.getLsbD 7) p)

/-- P as loaded by a flag-restoring operation: bit 5 forced to 1 (R26, R193, R253). -/
def restoredP (v : Byte) : Byte := v ||| Flag.u.mask

/-- The copy of P that PHP and BRK push: bits 4 and 5 set (R191, R254). -/
def pushedByProgram (p : Byte) : Byte := p ||| (Flag.b.mask ||| Flag.u.mask)

/-- The copy of P that IRQ entry pushes: bit 4 clear, bit 5 set (R337). -/
def pushedByIrq (p : Byte) : Byte := (p &&& ~~~ Flag.b.mask) ||| Flag.u.mask

/-- The copy of P that NMI entry pushes: P as stored, bit 5 set (R338, D9). -/
def pushedByNmi (p : Byte) : Byte := p ||| Flag.u.mask

/-- What an addition or subtraction gives: the result byte and N, V, Z, C. -/
structure AluResult where
  result : Byte
  n : Bool
  v : Bool
  z : Bool
  c : Bool
  deriving DecidableEq, Repr

/-- P with N, V, Z, C of an addition or subtraction. -/
def putAlu (r : AluResult) (p : Byte) : Byte :=
  putFlag .c r.c (putFlag .z r.z (putFlag .v r.v (putFlag .n r.n p)))

/-- `AddBinary(a, m, c)` (R200). -/
def addBinary (a m : Byte) (c : Bool) : AluResult :=
  let sum := a.toNat + m.toNat + c.toNat
  let result := BitVec.ofNat 8 sum
  { result := result
    n := result.getLsbD 7
    v := ((~~~ (a ^^^ m)) &&& (a ^^^ result) &&& 0x80) != 0
    z := result == 0
    c := decide (255 < sum) }

/-- `AddDecimal(a, m, c)` (R201, D7). -/
def addDecimal (a m : Byte) (c : Bool) : AluResult :=
  let al0 := (a &&& 0x0F).toNat + (m &&& 0x0F).toNat + c.toNat
  let al := if 0x0A ≤ al0 then (al0 + 0x06) % 16 + 0x10 else al0
  let s := (a &&& 0xF0).toNat + (m &&& 0xF0).toNat + al
  let ss := (a &&& 0xF0).toInt + (m &&& 0xF0).toInt + al
  let fixed := if 0xA0 ≤ s then s + 0x60 else s
  { result := BitVec.ofNat 8 fixed
    n := (BitVec.ofNat 8 s).getLsbD 7
    v := decide (ss < -128 ∨ 127 < ss)
    z := (a.toNat + m.toNat + c.toNat) % 256 == 0
    c := decide (0x100 ≤ fixed) }

/-- `SubBinary(a, m, c)`: addition of the one's complement (R202). -/
def subBinary (a m : Byte) (c : Bool) : AluResult := addBinary a (m ^^^ 0xFF) c

/-- The result byte of `SubDecimal(a, m, c)` (R203). `& $0F` and `mod 256` of a negative integer take the low bits of its
two's-complement form, which is what `%` on `Int` gives. -/
def subDecimalByte (a m : Byte) (c : Bool) : Byte :=
  let al0 : Int := (a &&& 0x0F).toNat - (m &&& 0x0F).toNat + c.toNat - 1
  let al : Int := if al0 < 0 then (al0 - 0x06) % 16 - 0x10 else al0
  let r : Int := (a &&& 0xF0).toNat - (m &&& 0xF0).toNat + al
  BitVec.ofInt 8 (if r < 0 then r - 0x60 else r)

/-- `SubDecimal(a, m, c)`: the decimal difference with the four flags of the binary subtraction (R203, D7). -/
def subDecimal (a m : Byte) (c : Bool) : AluResult := { subBinary a m c with result := subDecimalByte a m c }

/-- ADC's arithmetic by P.D (R205). -/
def addByMode (p a m : Byte) : AluResult :=
  if getFlag .d p then addDecimal a m (getFlag .c p) else addBinary a m (getFlag .c p)

/-- SBC's arithmetic by P.D (R206). -/
def subByMode (p a m : Byte) : AluResult :=
  if getFlag .d p then subDecimal a m (getFlag .c p) else subBinary a m (getFlag .c p)

/-- `Compare(r, m)` on P: N, Z, C of the binary subtraction, nothing else (R204). -/
def putCompare (r m p : Byte) : Byte := putFlag .c (decide (m.toNat ≤ r.toNat)) (putNZ (r - m) p)

/-- ASL's new operand (R230). -/
def shiftLeft (v : Byte) : Byte := v <<< 1

/-- LSR's new operand (R231). -/
def shiftRight (v : Byte) : Byte := v >>> 1

/-- ROL's new operand: the old carry enters bit 0 (R232). -/
def rotateLeft (v p : Byte) : Byte := (v <<< 1) ||| (if getFlag .c p then 0x01 else 0x00)

/-- ROR's new operand: the old carry enters bit 7 (R233). -/
def rotateRight (v p : Byte) : Byte := (v >>> 1) ||| (if getFlag .c p then 0x80 else 0x00)

/-- P after a left shift or rotate of `v` to `new`: C is bit 7 of the operand, N and Z are the result's (R230, R232). -/
def putLeft (v new p : Byte) : Byte := putNZ new (putFlag .c (v.getLsbD 7) p)

/-- P after a right shift or rotate of `v` to `new`: C is bit 0 of the operand (R231, R233). -/
def putRight (v new p : Byte) : Byte := putNZ new (putFlag .c (v.getLsbD 0) p)

/-- ARR on `t = A & M` when P.D = 0: the new A and P (R301). -/
def arrBinary (t p : Byte) : Byte × Byte :=
  let r := rotateRight t p
  (r, putFlag .v (r.getLsbD 6 ^^ r.getLsbD 5) (putFlag .c (r.getLsbD 6) (putNZ r p)))

/-- ARR on `t = A & M` when P.D = 1: the new A and P (R301). -/
def arrDecimal (t p : Byte) : Byte × Byte :=
  let r := rotateRight t p
  let p1 := putFlag .v (t.getLsbD 6 ^^ r.getLsbD 6) (putFlag .z (r == 0) (putFlag .n (getFlag .c p) p))
  let r1 := if 5 < (t &&& 0x0F).toNat + (t &&& 0x01).toNat then (r &&& 0xF0) ||| ((r + 6) &&& 0x0F) else r
  if 0x50 < (t &&& 0xF0).toNat + (t &&& 0x10).toNat then (r1 + 0x60, putFlag .c true p1) else (r1, putFlag .c false p1)

/-- ARR by P.D (R301). -/
def arrByMode (t p : Byte) : Byte × Byte := if getFlag .d p then arrDecimal t p else arrBinary t p

end Sys2Proof.Machine
end

