-- ==== Sys2Proof/Machine/Ops.lean ====
section
/-! DEFINITION. The named operations: memory in its canonical form, the bank decoder (R64 to R66), the arbiter's reads and
writes (R70 to R75), the stack (R28 to R30), taking an exception and returning from one (R254, R337, R338, R253), Halt
(R331), and the fetch of an instruction (R110, R115). -/

namespace Sys2Proof.Machine

/-- The byte written at an address, if one was. -/
def Memory.get? : Memory → Nat → Option Byte
  | [], _ => none
  | (k, b) :: rest, a => if k = a then some b else Memory.get? rest a

/-- The memory with a byte written at an address; the addresses stay strictly rising. -/
def Memory.set : Memory → Nat → Byte → Memory
  | [], a, v => [(a, v)]
  | (k, b) :: rest, a, v =>
    if a < k then (a, v) :: (k, b) :: rest
    else if a = k then (k, v) :: rest
    else (k, b) :: Memory.set rest a v

/-- Every address listed is at least `low`, below `size`, and below the next one. -/
def Memory.risingFrom (size : Nat) : Nat → Memory → Bool
  | _, [] => true
  | low, (k, _) :: rest => decide (low ≤ k) && decide (k < size) && Memory.risingFrom size (k + 1) rest

/-- The canonical form of a store of `size` bytes: addresses strictly rising and in range. An unlisted address holds no
written byte at all, so no entry can equal what it holds. Log 2. -/
def Memory.wf (size : Nat) (m : Memory) : Bool := Memory.risingFrom size 0 m

/-- `setLatch(controlByte)` (R32). -/
def setLatch (l : Latch) (v : Byte) : Latch :=
  { l with loram := v.getLsbD 0, hiram := v.getLsbD 1, charen := v.getLsbD 2 }

/-- The Ultimax configuration (R65). -/
def Latch.ultimax (l : Latch) : Bool := l.exrom && !l.game

/-- The bank decoder on a page, line by line as R65 has it. -/
def classifyPage (l : Latch) (page : Nat) : Region :=
  if page ≤ 15 then .ram
  else if page ≤ 127 then if l.ultimax then .undefined else .ram
  else if page ≤ 159 then
    if l.ultimax then .cartRomLo
    else if !l.exrom && l.loram && l.hiram then .cartRomLo
    else .ram
  else if page ≤ 191 then
    if l.ultimax then .undefined
    else if !l.exrom && !l.game && l.hiram then .cartRomHi
    else if l.game && l.loram && l.hiram then .basicRom
    else .ram
  else if page ≤ 207 then if l.ultimax then .undefined else .ram
  else if page ≤ 223 then
    if l.ultimax then .ioDevices
    else if l.game then
      if !l.loram && !l.hiram then .ram
      else if l.charen then .ioDevices
      else .charsetRom
    else if l.charen then if l.loram || l.hiram then .ioDevices else .ram
    else if l.hiram then .charsetRom
    else .ram
  else if l.ultimax then .cartRomHi
  else if l.hiram then .kernalRom
  else .ram

/-- `classify(latch, address)` (R64): the latch and the page alone decide. -/
def classify (l : Latch) (a : Word) : Region := classifyPage l (hi a).toNat

/-- RAM[a] (R37): the byte written there since reset, else the free byte of RAM_INIT (R383). -/
def ramByte (s : State) (a : Word) : Byte :=
  match Memory.get? s.ram a.toNat with
  | some b => b
  | none => Config.ramInit s.epoch a

/-- BASIC_ROM[i] (R37, R72). -/
def basicByte (u : Setup) (i : Nat) : Byte :=
  match Memory.get? u.basicRom i with
  | some b => b
  | none => Config.basicRom (BitVec.ofNat 13 i)

/-- KERNAL_ROM[i] (R37, R72). -/
def kernalByte (u : Setup) (i : Nat) : Byte :=
  match Memory.get? u.kernalRom i with
  | some b => b
  | none => Config.kernalRom (BitVec.ofNat 13 i)

/-- CHAR_ROM[i] (R37, R72). -/
def charByte (u : Setup) (i : Nat) : Byte :=
  match Memory.get? u.charRom i with
  | some b => b
  | none => Config.charRom (BitVec.ofNat 12 i)

/-- The byte the store of a region holds for an address (R70, R72); the cartridge and undefined regions answer from RAM. -/
def storeByte (s : State) (a : Word) : Byte :=
  match classify s.latch a with
  | .basicRom => basicByte s.setup (a.toNat - 0xA000)
  | .kernalRom => kernalByte s.setup (a.toNat - 0xE000)
  | .charsetRom => charByte s.setup (a.toNat - 0xD000)
  | .ram | .cartRomLo | .cartRomHi | .ioDevices | .undefined => ramByte s a

/-- The arbiter selects the device port for an address (R70, R75, D11). -/
def selectsPort (s : State) (a : Word) : Bool := classify s.latch a == .ioDevices && s.setup.devicePort

/-- What `MemRead(a, 1)` answers (R70). -/
def peek (s : State) (a : Word) : Byte :=
  if selectsPort s a then Config.deviceAnswer s.portLog a else storeByte s a

/-- The state after `MemRead(a, 1)`: only the device port sees a read (R76). -/
def afterRead (s : State) (a : Word) : State :=
  if selectsPort s a then { s with portLog := s.portLog ++ [.read a (Config.deviceAnswer s.portLog a)] } else s

/-- RAM[a] ← v, past the bank decoder (R78). -/
def rawWrite (s : State) (a : Word) (v : Byte) : State := { s with ram := Memory.set s.ram a.toNat v }

/-- `MemWrite(a, 1, v)` (R71): the device port, or RAM and, at $0001, the latch. -/
def busWrite (s : State) (a : Word) (v : Byte) : State :=
  if selectsPort s a then { s with portLog := s.portLog ++ [.write a v] }
  else if a = 0x0001 then { rawWrite s a v with latch := setLatch s.latch v }
  else rawWrite s a v

/-- What `MemRead(a, 2)` answers, low byte first, the second address mod 65536 (R62). -/
def peekWord (s : State) (a : Word) : Word := word (peek (afterRead s a) (a + 1)) (peek s a)

/-- The state after `MemRead(a, 2)` (R62). -/
def afterReadWord (s : State) (a : Word) : State := afterRead (afterRead s a) (a + 1)

/-- The stack address of a value of S: page 1 (R23). -/
def stackAddr (sp : Byte) : Word := word 0x01 sp

/-- `Push(v)` (R28). -/
def push (s : State) (v : Byte) : State :=
  let s1 := busWrite s (stackAddr s.sp) v
  { s1 with sp := s1.sp - 1 }

/-- The byte `Pull()` returns (R29). -/
def pulled (s : State) : Byte := peek s (stackAddr (s.sp + 1))

/-- The state after `Pull()` (R29). -/
def afterPull (s : State) : State := { afterRead s (stackAddr (s.sp + 1)) with sp := s.sp + 1 }

/-- Pushing a word: high byte, then low byte (R30). -/
def pushWord (s : State) (w : Word) : State := push (push s (hi w)) (lo w)

/-- The word that two pulls return: low byte, then high byte (R30). -/
def pulledWord (s : State) : Word := word (pulled (afterPull s)) (pulled s)

/-- The state after pulling a word (R30). -/
def afterPullWord (s : State) : State := afterPull (afterPull s)

/-- The vectors (R68). -/
def vectorNmi : Word := 0xFFFA
/-- The reset vector (R68). -/
def vectorReset : Word := 0xFFFC
/-- The IRQ and BRK vector (R68). -/
def vectorIrq : Word := 0xFFFE

/-- Taking an exception (R342): push the return address, high byte first, and the copy of P; set the given flags of P; load
PC from the vector, read through the bus. IRQ, NMI and BRK differ only in the arguments. -/
def takeException (s : State) (ret : Word) (copy flags : Byte) (vector : Word) : State :=
  let s1 := push (pushWord s ret) copy
  let s2 := { s1 with p := s1.p ||| flags }
  { afterReadWord s2 vector with pc := peekWord s2 vector }

/-- Returning from an exception (R253, R343): P from the stack with bit 5 forced, then PC low, PC high. -/
def returnFromException (s : State) : State :=
  let s1 := { afterPull s with p := restoredP (pulled s) }
  { afterPullWord s1 with pc := pulledWord s1 }

/-- Halt (R331): the flag is set, -1 is reported, nothing else changes. -/
def raiseHalt (s : State) : State := { s with halted := true, report := .halt }

/-- The instruction the opcode and operand bytes at PC hold, and the state after their reads (R110, R115; R85 steps 1, 2). -/
def fetch (s : State) : Instr × State :=
  let s1 := afterRead s s.pc
  match template (peek s s.pc) with
  | .one i => (i, s1)
  | .two f => (f (peek s1 (s.pc + 1)), afterRead s1 (s.pc + 1))
  | .three f => (f (peekWord s1 (s.pc + 1)), afterReadWord s1 (s.pc + 1))

end Sys2Proof.Machine
end

