-- ==== Sys2Proof/Machine/Operands.lean ====
section
/-! DEFINITION. The operand resolver (R140 to R156), the access classes (R157, R240), and the end of an instruction: cycles
(R400) and the advance of PC (R24). -/

namespace Sys2Proof.Machine

/-- The operand kinds the resolver returns (R140). -/
inductive OperandKind where
  | none | acc | mem | rel
  deriving DecidableEq, Repr

/-- What the resolver returns (R140): kind, EA, the address before the index was added, whether the index carried into the
high byte, and the state after the pointer reads. -/
structure Resolved where
  kind : OperandKind
  ea : Word
  base : Word
  crossed : Bool
  state : State
  deriving DecidableEq, Repr

/-- An address that no index moves. -/
def Resolved.direct (kind : OperandKind) (ea : Word) (s : State) : Resolved :=
  { kind := kind, ea := ea, base := ea, crossed := false, state := s }

/-- `base + index` mod 65536, crossed when the high bytes differ (R148, R149, R153). -/
def Resolved.indexed (base : Word) (index : Byte) (s : State) : Resolved :=
  let ea := base + zext16 index
  { kind := .mem, ea := ea, base := base, crossed := hi ea != hi base, state := s }

/-- The address of a pointer's high byte: only the low byte of the address is incremented (R155). -/
def pointerNext (ptr : Word) : Word := word (hi ptr) (lo ptr + 1)

/-- The word at a pointer, both bytes from one page, low byte first (R151 to R153, R155). -/
def pointerWord (s : State) (ptr : Word) : Word := word (peek (afterRead s ptr) (pointerNext ptr)) (peek s ptr)

/-- The state after a pointer's two reads. -/
def afterPointer (s : State) (ptr : Word) : State := afterRead (afterRead s ptr) (pointerNext ptr)

/-- `Resolve(mode)` (R140 to R154). PC is the address of the opcode. The operand bytes are in the instruction: the fetch has
read them. An immediate's EA is PC + 1 (R143); its byte, "read once", is the one in the instruction (log 11). -/
def resolve (o : Operand) (s : State) : Resolved :=
  match o with
  | .imp | .inv => .direct .none 0 s
  | .acc => .direct .acc 0 s
  | .imm _ => .direct .mem (s.pc + 1) s
  | .zp z => .direct .mem (zext16 z) s
  | .zpx z => .direct .mem (zext16 (z + s.x)) s
  | .zpy z => .direct .mem (zext16 (z + s.y)) s
  | .abs addr => .direct .mem addr s
  | .abx addr => .indexed addr s.x s
  | .aby addr => .indexed addr s.y s
  | .rel off => .direct .rel (zext16 off) s
  | .ind ptr => .direct .mem (pointerWord s ptr) (afterPointer s ptr)
  | .izx z => .direct .mem (pointerWord s (zext16 (z + s.x))) (afterPointer s (zext16 (z + s.x)))
  | .izy z => .indexed (pointerWord s (zext16 z)) s.y (afterPointer s (zext16 z))

/-- The operand byte M (R11, R157 read class): an immediate's byte, else `MemRead(EA, 1)`. -/
def operandByte (o : Operand) (r : Resolved) : Byte :=
  match o with
  | .imm v => v
  | _ => peek r.state r.ea

/-- The state after the operand byte is read; an immediate's was read by the fetch. -/
def afterOperand (o : Operand) (r : Resolved) : State :=
  match o with
  | .imm _ => r.state
  | _ => afterRead r.state r.ea

/-- `base_cycles(opcode)` (R7, R120, R400): the count CYCLE_TABLE supplies for the opcode, else R116's. -/
def baseCycles (u : Setup) (i : Instr) : Nat := (u.cycleTable.lookup i.opcode).getD i.row.cycles

/-- The cycles a step reports (R400): the base count and what the rules add. -/
def account (i : Instr) (extra : Nat) (s : State) : State :=
  { s with cycles := s.cycles + (baseCycles s.setup i + extra), report := .cycles (baseCycles s.setup i + extra) }

/-- The page-cross penalty (R156): one cycle when the opcode has it and the index crossed. -/
def penalty (i : Instr) (crossed : Bool) : Nat := if i.row.penalty && crossed then 1 else 0

/-- The end of an instruction that is no control transfer: its cycles, and PC + size mod 65536 (R24, R110). -/
def retire (i : Instr) (crossed : Bool) (s : State) : State :=
  let s1 := account i (penalty i crossed) s
  { s1 with pc := s1.pc + BitVec.ofNat 16 i.size }

/-- Implied instructions: `f` is the effect on the state (R141). -/
def impliedOp (i : Instr) (f : State → State) (s : State) : Result := .next (retire i false (f s))

/-- The read class (R157): resolve, read M, apply `f M`. -/
def readOp (i : Instr) (f : Byte → State → State) (s : State) : Result :=
  let r := resolve i.operand s
  .next (retire i r.crossed (f (operandByte i.operand r) (afterOperand i.operand r)))

/-- The write class (R157): resolve, write the value `v` gives; EA is not read. -/
def writeOp (i : Instr) (v : State → Byte) (s : State) : Result :=
  let r := resolve i.operand s
  .next (retire i r.crossed (busWrite r.state r.ea (v r.state)))

/-- The read-modify-write class (R240): one read, one write of `new old P`, then `after old new`. In accumulator mode A is the
operand and there is no bus access. -/
def modifyOp (i : Instr) (new : Byte → Byte → Byte) (after : Byte → Byte → State → State) (s : State) : Result :=
  let r := resolve i.operand s
  match r.kind with
  | .acc => .next (retire i false (after s.a (new s.a s.p) { s with a := new s.a s.p }))
  | _ =>
    let old := peek r.state r.ea
    .next (retire i r.crossed (after old (new old s.p) (busWrite (afterRead r.state r.ea) r.ea (new old s.p))))

end Sys2Proof.Machine
end

