-- ==== Sys2Proof/Machine/Control.lean ====
section
/-! DEFINITION. Control transfers (spec/46_control_flow.md): these set PC themselves and report size 0 (R110). -/

namespace Sys2Proof.Machine

/-- JMP: PC ← EA, which is not read (R250). -/
def opJmp (i : Instr) (s : State) : Result := let r := resolve i.operand s
  .next { account i 0 r.state with pc := r.ea }

/-- JMP abs, $4C (R250). -/
def execJmpAbs (addr : Word) (s : State) : Result := opJmp (.jmpAbs addr) s
/-- JMP ind, $6C (R250). -/
def execJmpInd (ptr : Word) (s : State) : Result := opJmp (.jmpInd ptr) s

/-- JSR: push the address of its own last byte, then PC ← EA (R251). -/
def opJsr (i : Instr) (s : State) : Result := let r := resolve i.operand s
  .next { account i 0 (pushWord r.state (r.state.pc + 2)) with pc := r.ea }

/-- JSR abs, $20 (R251). -/
def execJsr (addr : Word) (s : State) : Result := opJsr (.jsr addr) s

/-- RTS: PC ← the pulled word + 1 (R252). -/
def opRts (i : Instr) (s : State) : Result := .next { account i 0 (afterPullWord s) with pc := pulledWord s + 1 }

/-- RTS implied, $60 (R252). -/
def execRts (s : State) : Result := opRts .rts s

/-- RTI: return from exception (R253). -/
def opRti (i : Instr) (s : State) : Result := .next (account i 0 (returnFromException s))

/-- RTI implied, $40 (R253). -/
def execRti (s : State) : Result := opRti .rti s

/-- BRK: the exception by the IRQ vector with the address of BRK + 2, bits 4 and 5 of the pushed copy set, P.B and P.I set
(R254, R333). -/
def opBrk (i : Instr) (s : State) : Result := .next (account i 0 (takeException s (s.pc + 2) (pushedByProgram s.p) (Flag.b.mask ||| Flag.i.mask) vectorIrq))

/-- BRK implied, $00 (R254). -/
def execBrk (s : State) : Result := opBrk .brk s

/-- The offset byte of a relative operand (R150). -/
def offsetOf : Operand → Byte
  | .rel off => off
  | _ => 0

/-- The target of a branch at `pc`: the next instruction's address plus the signed offset, mod 65536 (R255). -/
def branchTarget (pc : Word) (off : Byte) : Word := pc + 2 + sext16 off

/-- The cycles a branch adds: one when taken, one more when the target's page is not that of the next instruction (R255, D15). -/
def branchExtra (pc : Word) (off : Byte) : Nat := if hi (branchTarget pc off) != hi (pc + 2) then 2 else 1

/-- The common rule of the conditional branches (R255). -/
def branch (i : Instr) (cond : Bool) (s : State) : Result :=
  let off := offsetOf i.operand
  if cond then .next { account i (branchExtra s.pc off) s with pc := branchTarget s.pc off }
  else .next { account i 0 s with pc := s.pc + 2 }

/-- BPL: taken when P.N = 0 (R256). -/
def opBpl (i : Instr) (s : State) : Result := branch i (getFlag .n s.p == false) s

/-- BPL rel, $10 (R256). -/
def execBpl (off : Byte) (s : State) : Result := opBpl (.bpl off) s

/-- BMI: taken when P.N = 1 (R257). -/
def opBmi (i : Instr) (s : State) : Result := branch i (getFlag .n s.p) s

/-- BMI rel, $30 (R257). -/
def execBmi (off : Byte) (s : State) : Result := opBmi (.bmi off) s

/-- BVC: taken when P.V = 0 (R258). -/
def opBvc (i : Instr) (s : State) : Result := branch i (getFlag .v s.p == false) s

/-- BVC rel, $50 (R258). -/
def execBvc (off : Byte) (s : State) : Result := opBvc (.bvc off) s

/-- BVS: taken when P.V = 1 (R259). -/
def opBvs (i : Instr) (s : State) : Result := branch i (getFlag .v s.p) s

/-- BVS rel, $70 (R259). -/
def execBvs (off : Byte) (s : State) : Result := opBvs (.bvs off) s

/-- BCC: taken when P.C = 0 (R260). -/
def opBcc (i : Instr) (s : State) : Result := branch i (getFlag .c s.p == false) s

/-- BCC rel, $90 (R260). -/
def execBcc (off : Byte) (s : State) : Result := opBcc (.bcc off) s

/-- BCS: taken when P.C = 1 (R261). -/
def opBcs (i : Instr) (s : State) : Result := branch i (getFlag .c s.p) s

/-- BCS rel, $B0 (R261). -/
def execBcs (off : Byte) (s : State) : Result := opBcs (.bcs off) s

/-- BNE: taken when P.Z = 0 (R262). -/
def opBne (i : Instr) (s : State) : Result := branch i (getFlag .z s.p == false) s

/-- BNE rel, $D0 (R262). -/
def execBne (off : Byte) (s : State) : Result := opBne (.bne off) s

/-- BEQ: taken when P.Z = 1 (R263). -/
def opBeq (i : Instr) (s : State) : Result := branch i (getFlag .z s.p) s

/-- BEQ rel, $F0 (R263). -/
def execBeq (off : Byte) (s : State) : Result := opBeq (.beq off) s

end Sys2Proof.Machine
end

