-- ==== Sys2Proof/Machine/FlagOps.lean ====
section
/-! DEFINITION. Flag instructions and every NOP (spec/47_flag_nop.md; R304 of spec/48_undocumented.md). -/

namespace Sys2Proof.Machine

/-- CLC, clear carry (R280). -/
def opClc (i : Instr) (s : State) : Result := impliedOp i (fun t => { t with p := putFlag .c false t.p }) s

/-- CLC implied, $18 (R280). -/
def execClc (s : State) : Result := opClc .clc s

/-- SEC, set carry (R281). -/
def opSec (i : Instr) (s : State) : Result := impliedOp i (fun t => { t with p := putFlag .c true t.p }) s

/-- SEC implied, $38 (R281). -/
def execSec (s : State) : Result := opSec .sec s

/-- CLI, clear irq-disable (R282). -/
def opCli (i : Instr) (s : State) : Result := impliedOp i (fun t => { t with p := putFlag .i false t.p }) s

/-- CLI implied, $58 (R282). -/
def execCli (s : State) : Result := opCli .cli s

/-- SEI, set irq-disable (R283). -/
def opSei (i : Instr) (s : State) : Result := impliedOp i (fun t => { t with p := putFlag .i true t.p }) s

/-- SEI implied, $78 (R283). -/
def execSei (s : State) : Result := opSei .sei s

/-- CLD, clear decimal mode (R284). -/
def opCld (i : Instr) (s : State) : Result := impliedOp i (fun t => { t with p := putFlag .d false t.p }) s

/-- CLD implied, $D8 (R284). -/
def execCld (s : State) : Result := opCld .cld s

/-- SED, set decimal mode (R285). -/
def opSed (i : Instr) (s : State) : Result := impliedOp i (fun t => { t with p := putFlag .d true t.p }) s

/-- SED implied, $F8 (R285). -/
def execSed (s : State) : Result := opSed .sed s

/-- CLV, clear overflow (R286). -/
def opClv (i : Instr) (s : State) : Result := impliedOp i (fun t => { t with p := putFlag .v false t.p }) s

/-- CLV implied, $B8 (R286). -/
def execClv (s : State) : Result := opClv .clv s

/-- NOP: the documented one (R287) and the 27 undocumented variants (R304). A form with a memory operand reads EA and discards the
byte (D31); an immediate's byte was read by the fetch. -/
def opNop (i : Instr) (s : State) : Result := match i.operand with
  | .imp => impliedOp i id s
  | _ => readOp i (fun _ t => t) s

/-- NOP zp, $04 (R304). -/
def execNopZp04 (z : Byte) (s : State) : Result := opNop (.nopZp04 z) s
/-- NOP abs, $0C (R304). -/
def execNopAbs (addr : Word) (s : State) : Result := opNop (.nopAbs addr) s
/-- NOP zpx, $14 (R304). -/
def execNopZpx14 (z : Byte) (s : State) : Result := opNop (.nopZpx14 z) s
/-- NOP implied, $1A (R304). -/
def execNopImp1A (s : State) : Result := opNop .nopImp1A s
/-- NOP abx, $1C (R304). -/
def execNopAbx1C (addr : Word) (s : State) : Result := opNop (.nopAbx1C addr) s
/-- NOP zpx, $34 (R304). -/
def execNopZpx34 (z : Byte) (s : State) : Result := opNop (.nopZpx34 z) s
/-- NOP implied, $3A (R304). -/
def execNopImp3A (s : State) : Result := opNop .nopImp3A s
/-- NOP abx, $3C (R304). -/
def execNopAbx3C (addr : Word) (s : State) : Result := opNop (.nopAbx3C addr) s
/-- NOP zp, $44 (R304). -/
def execNopZp44 (z : Byte) (s : State) : Result := opNop (.nopZp44 z) s
/-- NOP zpx, $54 (R304). -/
def execNopZpx54 (z : Byte) (s : State) : Result := opNop (.nopZpx54 z) s
/-- NOP implied, $5A (R304). -/
def execNopImp5A (s : State) : Result := opNop .nopImp5A s
/-- NOP abx, $5C (R304). -/
def execNopAbx5C (addr : Word) (s : State) : Result := opNop (.nopAbx5C addr) s
/-- NOP zp, $64 (R304). -/
def execNopZp64 (z : Byte) (s : State) : Result := opNop (.nopZp64 z) s
/-- NOP zpx, $74 (R304). -/
def execNopZpx74 (z : Byte) (s : State) : Result := opNop (.nopZpx74 z) s
/-- NOP implied, $7A (R304). -/
def execNopImp7A (s : State) : Result := opNop .nopImp7A s
/-- NOP abx, $7C (R304). -/
def execNopAbx7C (addr : Word) (s : State) : Result := opNop (.nopAbx7C addr) s
/-- NOP imm, $80 (R304). -/
def execNopImm80 (v : Byte) (s : State) : Result := opNop (.nopImm80 v) s
/-- NOP imm, $82 (R304). -/
def execNopImm82 (v : Byte) (s : State) : Result := opNop (.nopImm82 v) s
/-- NOP imm, $89 (R304). -/
def execNopImm89 (v : Byte) (s : State) : Result := opNop (.nopImm89 v) s
/-- NOP imm, $C2 (R304). -/
def execNopImmC2 (v : Byte) (s : State) : Result := opNop (.nopImmC2 v) s
/-- NOP zpx, $D4 (R304). -/
def execNopZpxD4 (z : Byte) (s : State) : Result := opNop (.nopZpxD4 z) s
/-- NOP implied, $DA (R304). -/
def execNopImpDA (s : State) : Result := opNop .nopImpDA s
/-- NOP abx, $DC (R304). -/
def execNopAbxDC (addr : Word) (s : State) : Result := opNop (.nopAbxDC addr) s
/-- NOP imm, $E2 (R304). -/
def execNopImmE2 (v : Byte) (s : State) : Result := opNop (.nopImmE2 v) s
/-- NOP implied, $EA (R287). -/
def execNopImp (s : State) : Result := opNop .nopImp s
/-- NOP zpx, $F4 (R304). -/
def execNopZpxF4 (z : Byte) (s : State) : Result := opNop (.nopZpxF4 z) s
/-- NOP implied, $FA (R304). -/
def execNopImpFA (s : State) : Result := opNop .nopImpFA s
/-- NOP abx, $FC (R304). -/
def execNopAbxFC (addr : Word) (s : State) : Result := opNop (.nopAbxFC addr) s

end Sys2Proof.Machine
end

