-- ==== Sys2Proof/Machine/LoadStore.lean ====
section
/-! DEFINITION. Loads, stores and register transfers (spec/41_load_store_transfer.md). Every instruction of the package is one
`op` per mnemonic over a shared access class, and one `exec` per opcode-table row that names it. -/

namespace Sys2Proof.Machine

/-- A ← m, SetNZ (R170). -/
def loadA (m : Byte) (s : State) : State := { s with a := m, p := putNZ m s.p }

/-- X ← m, SetNZ (R171). -/
def loadX (m : Byte) (s : State) : State := { s with x := m, p := putNZ m s.p }

/-- Y ← m, SetNZ (R172). -/
def loadY (m : Byte) (s : State) : State := { s with y := m, p := putNZ m s.p }

/-- LDA, load accumulator (R170). -/
def opLda (i : Instr) (s : State) : Result := readOp i loadA s

/-- LDA izx, $A1 (R170). -/
def execLdaIzx (z : Byte) (s : State) : Result := opLda (.ldaIzx z) s
/-- LDA zp, $A5 (R170). -/
def execLdaZp (z : Byte) (s : State) : Result := opLda (.ldaZp z) s
/-- LDA imm, $A9 (R170). -/
def execLdaImm (v : Byte) (s : State) : Result := opLda (.ldaImm v) s
/-- LDA abs, $AD (R170). -/
def execLdaAbs (addr : Word) (s : State) : Result := opLda (.ldaAbs addr) s
/-- LDA izy, $B1 (R170). -/
def execLdaIzy (z : Byte) (s : State) : Result := opLda (.ldaIzy z) s
/-- LDA zpx, $B5 (R170). -/
def execLdaZpx (z : Byte) (s : State) : Result := opLda (.ldaZpx z) s
/-- LDA aby, $B9 (R170). -/
def execLdaAby (addr : Word) (s : State) : Result := opLda (.ldaAby addr) s
/-- LDA abx, $BD (R170). -/
def execLdaAbx (addr : Word) (s : State) : Result := opLda (.ldaAbx addr) s

/-- LDX, load X (R171). -/
def opLdx (i : Instr) (s : State) : Result := readOp i loadX s

/-- LDX imm, $A2 (R171). -/
def execLdxImm (v : Byte) (s : State) : Result := opLdx (.ldxImm v) s
/-- LDX zp, $A6 (R171). -/
def execLdxZp (z : Byte) (s : State) : Result := opLdx (.ldxZp z) s
/-- LDX abs, $AE (R171). -/
def execLdxAbs (addr : Word) (s : State) : Result := opLdx (.ldxAbs addr) s
/-- LDX zpy, $B6 (R171). -/
def execLdxZpy (z : Byte) (s : State) : Result := opLdx (.ldxZpy z) s
/-- LDX aby, $BE (R171). -/
def execLdxAby (addr : Word) (s : State) : Result := opLdx (.ldxAby addr) s

/-- LDY, load Y (R172). -/
def opLdy (i : Instr) (s : State) : Result := readOp i loadY s

/-- LDY imm, $A0 (R172). -/
def execLdyImm (v : Byte) (s : State) : Result := opLdy (.ldyImm v) s
/-- LDY zp, $A4 (R172). -/
def execLdyZp (z : Byte) (s : State) : Result := opLdy (.ldyZp z) s
/-- LDY abs, $AC (R172). -/
def execLdyAbs (addr : Word) (s : State) : Result := opLdy (.ldyAbs addr) s
/-- LDY zpx, $B4 (R172). -/
def execLdyZpx (z : Byte) (s : State) : Result := opLdy (.ldyZpx z) s
/-- LDY abx, $BC (R172). -/
def execLdyAbx (addr : Word) (s : State) : Result := opLdy (.ldyAbx addr) s

/-- STA, store accumulator (R173). -/
def opSta (i : Instr) (s : State) : Result := writeOp i State.a s

/-- STA izx, $81 (R173). -/
def execStaIzx (z : Byte) (s : State) : Result := opSta (.staIzx z) s
/-- STA zp, $85 (R173). -/
def execStaZp (z : Byte) (s : State) : Result := opSta (.staZp z) s
/-- STA abs, $8D (R173). -/
def execStaAbs (addr : Word) (s : State) : Result := opSta (.staAbs addr) s
/-- STA izy, $91 (R173). -/
def execStaIzy (z : Byte) (s : State) : Result := opSta (.staIzy z) s
/-- STA zpx, $95 (R173). -/
def execStaZpx (z : Byte) (s : State) : Result := opSta (.staZpx z) s
/-- STA aby, $99 (R173). -/
def execStaAby (addr : Word) (s : State) : Result := opSta (.staAby addr) s
/-- STA abx, $9D (R173). -/
def execStaAbx (addr : Word) (s : State) : Result := opSta (.staAbx addr) s

/-- STX, store X (R174). -/
def opStx (i : Instr) (s : State) : Result := writeOp i State.x s

/-- STX zp, $86 (R174). -/
def execStxZp (z : Byte) (s : State) : Result := opStx (.stxZp z) s
/-- STX abs, $8E (R174). -/
def execStxAbs (addr : Word) (s : State) : Result := opStx (.stxAbs addr) s
/-- STX zpy, $96 (R174). -/
def execStxZpy (z : Byte) (s : State) : Result := opStx (.stxZpy z) s

/-- STY, store Y (R175). -/
def opSty (i : Instr) (s : State) : Result := writeOp i State.y s

/-- STY zp, $84 (R175). -/
def execStyZp (z : Byte) (s : State) : Result := opSty (.styZp z) s
/-- STY abs, $8C (R175). -/
def execStyAbs (addr : Word) (s : State) : Result := opSty (.styAbs addr) s
/-- STY zpx, $94 (R175). -/
def execStyZpx (z : Byte) (s : State) : Result := opSty (.styZpx z) s

/-- TAX, transfer A to X (R176). -/
def opTax (i : Instr) (s : State) : Result := impliedOp i (fun t => loadX t.a t) s

/-- TAX implied, $AA (R176). -/
def execTax (s : State) : Result := opTax .tax s

/-- TAY, transfer A to Y (R177). -/
def opTay (i : Instr) (s : State) : Result := impliedOp i (fun t => loadY t.a t) s

/-- TAY implied, $A8 (R177). -/
def execTay (s : State) : Result := opTay .tay s

/-- TXA, transfer X to A (R178). -/
def opTxa (i : Instr) (s : State) : Result := impliedOp i (fun t => loadA t.x t) s

/-- TXA implied, $8A (R178). -/
def execTxa (s : State) : Result := opTxa .txa s

/-- TYA, transfer Y to A (R179). -/
def opTya (i : Instr) (s : State) : Result := impliedOp i (fun t => loadA t.y t) s

/-- TYA implied, $98 (R179). -/
def execTya (s : State) : Result := opTya .tya s

/-- TSX, transfer S to X (R180). -/
def opTsx (i : Instr) (s : State) : Result := impliedOp i (fun t => loadX t.sp t) s

/-- TSX implied, $BA (R180). -/
def execTsx (s : State) : Result := opTsx .tsx s

/-- TXS, transfer X to S; no flag is written (R181). -/
def opTxs (i : Instr) (s : State) : Result := impliedOp i (fun t => { t with sp := t.x }) s

/-- TXS implied, $9A (R181). -/
def execTxs (s : State) : Result := opTxs .txs s

end Sys2Proof.Machine
end

