-- ==== Sys2Proof/Machine/Logic.lean ====
section
/-! DEFINITION. Logic and bit test (spec/44_logic_bit.md). -/

namespace Sys2Proof.Machine

/-- AND with accumulator (R220). -/
def opAnd (i : Instr) (s : State) : Result := readOp i (fun m t => loadA (t.a &&& m) t) s

/-- AND izx, $21 (R220). -/
def execAndIzx (z : Byte) (s : State) : Result := opAnd (.andIzx z) s
/-- AND zp, $25 (R220). -/
def execAndZp (z : Byte) (s : State) : Result := opAnd (.andZp z) s
/-- AND imm, $29 (R220). -/
def execAndImm (v : Byte) (s : State) : Result := opAnd (.andImm v) s
/-- AND abs, $2D (R220). -/
def execAndAbs (addr : Word) (s : State) : Result := opAnd (.andAbs addr) s
/-- AND izy, $31 (R220). -/
def execAndIzy (z : Byte) (s : State) : Result := opAnd (.andIzy z) s
/-- AND zpx, $35 (R220). -/
def execAndZpx (z : Byte) (s : State) : Result := opAnd (.andZpx z) s
/-- AND aby, $39 (R220). -/
def execAndAby (addr : Word) (s : State) : Result := opAnd (.andAby addr) s
/-- AND abx, $3D (R220). -/
def execAndAbx (addr : Word) (s : State) : Result := opAnd (.andAbx addr) s

/-- ORA, or with accumulator (R221). -/
def opOra (i : Instr) (s : State) : Result := readOp i (fun m t => loadA (t.a ||| m) t) s

/-- ORA izx, $01 (R221). -/
def execOraIzx (z : Byte) (s : State) : Result := opOra (.oraIzx z) s
/-- ORA zp, $05 (R221). -/
def execOraZp (z : Byte) (s : State) : Result := opOra (.oraZp z) s
/-- ORA imm, $09 (R221). -/
def execOraImm (v : Byte) (s : State) : Result := opOra (.oraImm v) s
/-- ORA abs, $0D (R221). -/
def execOraAbs (addr : Word) (s : State) : Result := opOra (.oraAbs addr) s
/-- ORA izy, $11 (R221). -/
def execOraIzy (z : Byte) (s : State) : Result := opOra (.oraIzy z) s
/-- ORA zpx, $15 (R221). -/
def execOraZpx (z : Byte) (s : State) : Result := opOra (.oraZpx z) s
/-- ORA aby, $19 (R221). -/
def execOraAby (addr : Word) (s : State) : Result := opOra (.oraAby addr) s
/-- ORA abx, $1D (R221). -/
def execOraAbx (addr : Word) (s : State) : Result := opOra (.oraAbx addr) s

/-- EOR, exclusive or with accumulator (R222). -/
def opEor (i : Instr) (s : State) : Result := readOp i (fun m t => loadA (t.a ^^^ m) t) s

/-- EOR izx, $41 (R222). -/
def execEorIzx (z : Byte) (s : State) : Result := opEor (.eorIzx z) s
/-- EOR zp, $45 (R222). -/
def execEorZp (z : Byte) (s : State) : Result := opEor (.eorZp z) s
/-- EOR imm, $49 (R222). -/
def execEorImm (v : Byte) (s : State) : Result := opEor (.eorImm v) s
/-- EOR abs, $4D (R222). -/
def execEorAbs (addr : Word) (s : State) : Result := opEor (.eorAbs addr) s
/-- EOR izy, $51 (R222). -/
def execEorIzy (z : Byte) (s : State) : Result := opEor (.eorIzy z) s
/-- EOR zpx, $55 (R222). -/
def execEorZpx (z : Byte) (s : State) : Result := opEor (.eorZpx z) s
/-- EOR aby, $59 (R222). -/
def execEorAby (addr : Word) (s : State) : Result := opEor (.eorAby addr) s
/-- EOR abx, $5D (R222). -/
def execEorAbx (addr : Word) (s : State) : Result := opEor (.eorAbx addr) s

/-- P after BIT with A and operand m: Z from the and, N and V from bits 7 and 6 of m (R223). -/
def putBit (a m p : Byte) : Byte :=
  putFlag .v (m.getLsbD 6) (putFlag .n (m.getLsbD 7) (putFlag .z (a &&& m == 0) p))

/-- BIT, test bits (R223). -/
def opBit (i : Instr) (s : State) : Result := readOp i (fun m t => { t with p := putBit t.a m t.p }) s

/-- BIT zp, $24 (R223). -/
def execBitZp (z : Byte) (s : State) : Result := opBit (.bitZp z) s
/-- BIT abs, $2C (R223). -/
def execBitAbs (addr : Word) (s : State) : Result := opBit (.bitAbs addr) s

end Sys2Proof.Machine
end

