-- ==== Sys2Proof/Machine/Shift.lean ====
section
/-! DEFINITION. Shifts, rotates, increments, decrements (spec/45_shift_incdec.md). -/

namespace Sys2Proof.Machine

/-- The flags after a left shift or rotate. -/
def afterLeft (old new : Byte) (s : State) : State := { s with p := putLeft old new s.p }

/-- The flags after a right shift or rotate. -/
def afterRight (old new : Byte) (s : State) : State := { s with p := putRight old new s.p }

/-- The flags after an increment or decrement: N and Z only (R234, R235). -/
def afterCount (_ new : Byte) (s : State) : State := { s with p := putNZ new s.p }

/-- ASL, arithmetic shift left (R230). -/
def opAsl (i : Instr) (s : State) : Result := modifyOp i (fun v _ => shiftLeft v) afterLeft s

/-- ASL zp, $06 (R230). -/
def execAslZp (z : Byte) (s : State) : Result := opAsl (.aslZp z) s
/-- ASL accumulator, $0A (R230). -/
def execAslAcc (s : State) : Result := opAsl .aslAcc s
/-- ASL abs, $0E (R230). -/
def execAslAbs (addr : Word) (s : State) : Result := opAsl (.aslAbs addr) s
/-- ASL zpx, $16 (R230). -/
def execAslZpx (z : Byte) (s : State) : Result := opAsl (.aslZpx z) s
/-- ASL abx, $1E (R230). -/
def execAslAbx (addr : Word) (s : State) : Result := opAsl (.aslAbx addr) s

/-- LSR, logical shift right (R231). -/
def opLsr (i : Instr) (s : State) : Result := modifyOp i (fun v _ => shiftRight v) afterRight s

/-- LSR zp, $46 (R231). -/
def execLsrZp (z : Byte) (s : State) : Result := opLsr (.lsrZp z) s
/-- LSR accumulator, $4A (R231). -/
def execLsrAcc (s : State) : Result := opLsr .lsrAcc s
/-- LSR abs, $4E (R231). -/
def execLsrAbs (addr : Word) (s : State) : Result := opLsr (.lsrAbs addr) s
/-- LSR zpx, $56 (R231). -/
def execLsrZpx (z : Byte) (s : State) : Result := opLsr (.lsrZpx z) s
/-- LSR abx, $5E (R231). -/
def execLsrAbx (addr : Word) (s : State) : Result := opLsr (.lsrAbx addr) s

/-- ROL, rotate left through carry (R232). -/
def opRol (i : Instr) (s : State) : Result := modifyOp i rotateLeft afterLeft s

/-- ROL zp, $26 (R232). -/
def execRolZp (z : Byte) (s : State) : Result := opRol (.rolZp z) s
/-- ROL accumulator, $2A (R232). -/
def execRolAcc (s : State) : Result := opRol .rolAcc s
/-- ROL abs, $2E (R232). -/
def execRolAbs (addr : Word) (s : State) : Result := opRol (.rolAbs addr) s
/-- ROL zpx, $36 (R232). -/
def execRolZpx (z : Byte) (s : State) : Result := opRol (.rolZpx z) s
/-- ROL abx, $3E (R232). -/
def execRolAbx (addr : Word) (s : State) : Result := opRol (.rolAbx addr) s

/-- ROR, rotate right through carry (R233). -/
def opRor (i : Instr) (s : State) : Result := modifyOp i rotateRight afterRight s

/-- ROR zp, $66 (R233). -/
def execRorZp (z : Byte) (s : State) : Result := opRor (.rorZp z) s
/-- ROR accumulator, $6A (R233). -/
def execRorAcc (s : State) : Result := opRor .rorAcc s
/-- ROR abs, $6E (R233). -/
def execRorAbs (addr : Word) (s : State) : Result := opRor (.rorAbs addr) s
/-- ROR zpx, $76 (R233). -/
def execRorZpx (z : Byte) (s : State) : Result := opRor (.rorZpx z) s
/-- ROR abx, $7E (R233). -/
def execRorAbx (addr : Word) (s : State) : Result := opRor (.rorAbx addr) s

/-- INC, increment memory (R234). -/
def opInc (i : Instr) (s : State) : Result := modifyOp i (fun v _ => v + 1) afterCount s

/-- INC zp, $E6 (R234). -/
def execIncZp (z : Byte) (s : State) : Result := opInc (.incZp z) s
/-- INC abs, $EE (R234). -/
def execIncAbs (addr : Word) (s : State) : Result := opInc (.incAbs addr) s
/-- INC zpx, $F6 (R234). -/
def execIncZpx (z : Byte) (s : State) : Result := opInc (.incZpx z) s
/-- INC abx, $FE (R234). -/
def execIncAbx (addr : Word) (s : State) : Result := opInc (.incAbx addr) s

/-- DEC, decrement memory (R235). -/
def opDec (i : Instr) (s : State) : Result := modifyOp i (fun v _ => v - 1) afterCount s

/-- DEC zp, $C6 (R235). -/
def execDecZp (z : Byte) (s : State) : Result := opDec (.decZp z) s
/-- DEC abs, $CE (R235). -/
def execDecAbs (addr : Word) (s : State) : Result := opDec (.decAbs addr) s
/-- DEC zpx, $D6 (R235). -/
def execDecZpx (z : Byte) (s : State) : Result := opDec (.decZpx z) s
/-- DEC abx, $DE (R235). -/
def execDecAbx (addr : Word) (s : State) : Result := opDec (.decAbx addr) s

/-- INX, increment X (R236). -/
def opInx (i : Instr) (s : State) : Result := impliedOp i (fun t => loadX (t.x + 1) t) s

/-- INX implied, $E8 (R236). -/
def execInx (s : State) : Result := opInx .inx s

/-- INY, increment Y (R237). -/
def opIny (i : Instr) (s : State) : Result := impliedOp i (fun t => loadY (t.y + 1) t) s

/-- INY implied, $C8 (R237). -/
def execIny (s : State) : Result := opIny .iny s

/-- DEX, decrement X (R238). -/
def opDex (i : Instr) (s : State) : Result := impliedOp i (fun t => loadX (t.x - 1) t) s

/-- DEX implied, $CA (R238). -/
def execDex (s : State) : Result := opDex .dex s

/-- DEY, decrement Y (R239). -/
def opDey (i : Instr) (s : State) : Result := impliedOp i (fun t => loadY (t.y - 1) t) s

/-- DEY implied, $88 (R239). -/
def execDey (s : State) : Result := opDey .dey s

end Sys2Proof.Machine
end

