-- ==== Sys2Proof/Machine/Stack.lean ====
section
/-! DEFINITION. Stack instructions (spec/42_stack.md). -/

namespace Sys2Proof.Machine

/-- PHA, push accumulator (R190). -/
def opPha (i : Instr) (s : State) : Result := impliedOp i (fun t => push t t.a) s

/-- PHA implied, $48 (R190). -/
def execPha (s : State) : Result := opPha .pha s

/-- PHP, push processor status with bits 4 and 5 set; P itself is unchanged (R191, D8). -/
def opPhp (i : Instr) (s : State) : Result := impliedOp i (fun t => push t (pushedByProgram t.p)) s

/-- PHP implied, $08 (R191). -/
def execPhp (s : State) : Result := opPhp .php s

/-- PLA, pull accumulator (R192). -/
def opPla (i : Instr) (s : State) : Result := impliedOp i (fun t => loadA (pulled t) (afterPull t)) s

/-- PLA implied, $68 (R192). -/
def execPla (s : State) : Result := opPla .pla s

/-- PLP, pull processor status, bit 5 forced to 1 (R193). -/
def opPlp (i : Instr) (s : State) : Result := impliedOp i (fun t => { afterPull t with p := restoredP (pulled t) }) s

/-- PLP implied, $28 (R193). -/
def execPlp (s : State) : Result := opPlp .plp s

end Sys2Proof.Machine
end

