-- ==== Sys2Proof/Machine/Arithmetic.lean ====
section
/-! DEFINITION. Add, subtract and compare, binary and decimal (spec/43_arithmetic_compare.md). -/

namespace Sys2Proof.Machine

/-- ADC's effect with operand m (R205). -/
def adcEffect (m : Byte) (s : State) : State :=
  let r := addByMode s.p s.a m
  { s with a := r.result, p := putAlu r s.p }

/-- SBC's effect with operand m (R206). -/
def sbcEffect (m : Byte) (s : State) : State :=
  let r := subByMode s.p s.a m
  { s with a := r.result, p := putAlu r s.p }

/-- ADC, add with carry, by P.D (R205). -/
def opAdc (i : Instr) (s : State) : Result := readOp i adcEffect s

/-- ADC izx, $61 (R205). -/
def execAdcIzx (z : Byte) (s : State) : Result := opAdc (.adcIzx z) s
/-- ADC zp, $65 (R205). -/
def execAdcZp (z : Byte) (s : State) : Result := opAdc (.adcZp z) s
/-- ADC imm, $69 (R205). -/
def execAdcImm (v : Byte) (s : State) : Result := opAdc (.adcImm v) s
/-- ADC abs, $6D (R205). -/
def execAdcAbs (addr : Word) (s : State) : Result := opAdc (.adcAbs addr) s
/-- ADC izy, $71 (R205). -/
def execAdcIzy (z : Byte) (s : State) : Result := opAdc (.adcIzy z) s
/-- ADC zpx, $75 (R205). -/
def execAdcZpx (z : Byte) (s : State) : Result := opAdc (.adcZpx z) s
/-- ADC aby, $79 (R205). -/
def execAdcAby (addr : Word) (s : State) : Result := opAdc (.adcAby addr) s
/-- ADC abx, $7D (R205). -/
def execAdcAbx (addr : Word) (s : State) : Result := opAdc (.adcAbx addr) s

/-- SBC, subtract with carry, by P.D (R206); $EB is its undocumented duplicate (R303). -/
def opSbc (i : Instr) (s : State) : Result := readOp i sbcEffect s

/-- SBC izx, $E1 (R206). -/
def execSbcIzx (z : Byte) (s : State) : Result := opSbc (.sbcIzx z) s
/-- SBC zp, $E5 (R206). -/
def execSbcZp (z : Byte) (s : State) : Result := opSbc (.sbcZp z) s
/-- SBC imm, $E9 (R206). -/
def execSbcImm (v : Byte) (s : State) : Result := opSbc (.sbcImm v) s
/-- SBC imm, $EB (R303). -/
def execSbcImmEB (v : Byte) (s : State) : Result := opSbc (.sbcImmEB v) s
/-- SBC abs, $ED (R206). -/
def execSbcAbs (addr : Word) (s : State) : Result := opSbc (.sbcAbs addr) s
/-- SBC izy, $F1 (R206). -/
def execSbcIzy (z : Byte) (s : State) : Result := opSbc (.sbcIzy z) s
/-- SBC zpx, $F5 (R206). -/
def execSbcZpx (z : Byte) (s : State) : Result := opSbc (.sbcZpx z) s
/-- SBC aby, $F9 (R206). -/
def execSbcAby (addr : Word) (s : State) : Result := opSbc (.sbcAby addr) s
/-- SBC abx, $FD (R206). -/
def execSbcAbx (addr : Word) (s : State) : Result := opSbc (.sbcAbx addr) s

/-- CMP, compare with accumulator (R207). -/
def opCmp (i : Instr) (s : State) : Result := readOp i (fun m t => { t with p := putCompare t.a m t.p }) s

/-- CMP izx, $C1 (R207). -/
def execCmpIzx (z : Byte) (s : State) : Result := opCmp (.cmpIzx z) s
/-- CMP zp, $C5 (R207). -/
def execCmpZp (z : Byte) (s : State) : Result := opCmp (.cmpZp z) s
/-- CMP imm, $C9 (R207). -/
def execCmpImm (v : Byte) (s : State) : Result := opCmp (.cmpImm v) s
/-- CMP abs, $CD (R207). -/
def execCmpAbs (addr : Word) (s : State) : Result := opCmp (.cmpAbs addr) s
/-- CMP izy, $D1 (R207). -/
def execCmpIzy (z : Byte) (s : State) : Result := opCmp (.cmpIzy z) s
/-- CMP zpx, $D5 (R207). -/
def execCmpZpx (z : Byte) (s : State) : Result := opCmp (.cmpZpx z) s
/-- CMP aby, $D9 (R207). -/
def execCmpAby (addr : Word) (s : State) : Result := opCmp (.cmpAby addr) s
/-- CMP abx, $DD (R207). -/
def execCmpAbx (addr : Word) (s : State) : Result := opCmp (.cmpAbx addr) s

/-- CPX, compare with X (R208). -/
def opCpx (i : Instr) (s : State) : Result := readOp i (fun m t => { t with p := putCompare t.x m t.p }) s

/-- CPX imm, $E0 (R208). -/
def execCpxImm (v : Byte) (s : State) : Result := opCpx (.cpxImm v) s
/-- CPX zp, $E4 (R208). -/
def execCpxZp (z : Byte) (s : State) : Result := opCpx (.cpxZp z) s
/-- CPX abs, $EC (R208). -/
def execCpxAbs (addr : Word) (s : State) : Result := opCpx (.cpxAbs addr) s

/-- CPY, compare with Y (R209). -/
def opCpy (i : Instr) (s : State) : Result := readOp i (fun m t => { t with p := putCompare t.y m t.p }) s

/-- CPY imm, $C0 (R209). -/
def execCpyImm (v : Byte) (s : State) : Result := opCpy (.cpyImm v) s
/-- CPY zp, $C4 (R209). -/
def execCpyZp (z : Byte) (s : State) : Result := opCpy (.cpyZp z) s
/-- CPY abs, $CC (R209). -/
def execCpyAbs (addr : Word) (s : State) : Result := opCpy (.cpyAbs addr) s

end Sys2Proof.Machine
end

