-- ==== Sys2Proof/Machine/Undocumented.lean ====
section
/-! DEFINITION. Undocumented instructions (spec/48_undocumented.md): the stable ones, the unstable ones with free values, JAM. -/

namespace Sys2Proof.Machine

/-- SLO: ASL the operand, then ORA it (R291). -/
def opSlo (i : Instr) (s : State) : Result := modifyOp i (fun v _ => shiftLeft v) (fun old new t => loadA (t.a ||| new) { t with p := putFlag .c (old.getLsbD 7) t.p }) s

/-- SLO izx, $03 (R291). -/
def execSloIzx (z : Byte) (s : State) : Result := opSlo (.sloIzx z) s
/-- SLO zp, $07 (R291). -/
def execSloZp (z : Byte) (s : State) : Result := opSlo (.sloZp z) s
/-- SLO abs, $0F (R291). -/
def execSloAbs (addr : Word) (s : State) : Result := opSlo (.sloAbs addr) s
/-- SLO izy, $13 (R291). -/
def execSloIzy (z : Byte) (s : State) : Result := opSlo (.sloIzy z) s
/-- SLO zpx, $17 (R291). -/
def execSloZpx (z : Byte) (s : State) : Result := opSlo (.sloZpx z) s
/-- SLO aby, $1B (R291). -/
def execSloAby (addr : Word) (s : State) : Result := opSlo (.sloAby addr) s
/-- SLO abx, $1F (R291). -/
def execSloAbx (addr : Word) (s : State) : Result := opSlo (.sloAbx addr) s

/-- RLA: ROL the operand, then AND it (R292). -/
def opRla (i : Instr) (s : State) : Result := modifyOp i rotateLeft (fun old new t => loadA (t.a &&& new) { t with p := putFlag .c (old.getLsbD 7) t.p }) s

/-- RLA izx, $23 (R292). -/
def execRlaIzx (z : Byte) (s : State) : Result := opRla (.rlaIzx z) s
/-- RLA zp, $27 (R292). -/
def execRlaZp (z : Byte) (s : State) : Result := opRla (.rlaZp z) s
/-- RLA abs, $2F (R292). -/
def execRlaAbs (addr : Word) (s : State) : Result := opRla (.rlaAbs addr) s
/-- RLA izy, $33 (R292). -/
def execRlaIzy (z : Byte) (s : State) : Result := opRla (.rlaIzy z) s
/-- RLA zpx, $37 (R292). -/
def execRlaZpx (z : Byte) (s : State) : Result := opRla (.rlaZpx z) s
/-- RLA aby, $3B (R292). -/
def execRlaAby (addr : Word) (s : State) : Result := opRla (.rlaAby addr) s
/-- RLA abx, $3F (R292). -/
def execRlaAbx (addr : Word) (s : State) : Result := opRla (.rlaAbx addr) s

/-- SRE: LSR the operand, then EOR it (R293). -/
def opSre (i : Instr) (s : State) : Result := modifyOp i (fun v _ => shiftRight v) (fun old new t => loadA (t.a ^^^ new) { t with p := putFlag .c (old.getLsbD 0) t.p }) s

/-- SRE izx, $43 (R293). -/
def execSreIzx (z : Byte) (s : State) : Result := opSre (.sreIzx z) s
/-- SRE zp, $47 (R293). -/
def execSreZp (z : Byte) (s : State) : Result := opSre (.sreZp z) s
/-- SRE abs, $4F (R293). -/
def execSreAbs (addr : Word) (s : State) : Result := opSre (.sreAbs addr) s
/-- SRE izy, $53 (R293). -/
def execSreIzy (z : Byte) (s : State) : Result := opSre (.sreIzy z) s
/-- SRE zpx, $57 (R293). -/
def execSreZpx (z : Byte) (s : State) : Result := opSre (.sreZpx z) s
/-- SRE aby, $5B (R293). -/
def execSreAby (addr : Word) (s : State) : Result := opSre (.sreAby addr) s
/-- SRE abx, $5F (R293). -/
def execSreAbx (addr : Word) (s : State) : Result := opSre (.sreAbx addr) s

/-- RRA: ROR the operand, then ADC it with the bit rotated out as the carry (R294). -/
def opRra (i : Instr) (s : State) : Result := modifyOp i rotateRight (fun old new t => adcEffect new { t with p := putFlag .c (old.getLsbD 0) t.p }) s

/-- RRA izx, $63 (R294). -/
def execRraIzx (z : Byte) (s : State) : Result := opRra (.rraIzx z) s
/-- RRA zp, $67 (R294). -/
def execRraZp (z : Byte) (s : State) : Result := opRra (.rraZp z) s
/-- RRA abs, $6F (R294). -/
def execRraAbs (addr : Word) (s : State) : Result := opRra (.rraAbs addr) s
/-- RRA izy, $73 (R294). -/
def execRraIzy (z : Byte) (s : State) : Result := opRra (.rraIzy z) s
/-- RRA zpx, $77 (R294). -/
def execRraZpx (z : Byte) (s : State) : Result := opRra (.rraZpx z) s
/-- RRA aby, $7B (R294). -/
def execRraAby (addr : Word) (s : State) : Result := opRra (.rraAby addr) s
/-- RRA abx, $7F (R294). -/
def execRraAbx (addr : Word) (s : State) : Result := opRra (.rraAbx addr) s

/-- DCP: decrement the operand, then compare A with it (R297). -/
def opDcp (i : Instr) (s : State) : Result := modifyOp i (fun v _ => v - 1) (fun _ new t => { t with p := putCompare t.a new t.p }) s

/-- DCP izx, $C3 (R297). -/
def execDcpIzx (z : Byte) (s : State) : Result := opDcp (.dcpIzx z) s
/-- DCP zp, $C7 (R297). -/
def execDcpZp (z : Byte) (s : State) : Result := opDcp (.dcpZp z) s
/-- DCP abs, $CF (R297). -/
def execDcpAbs (addr : Word) (s : State) : Result := opDcp (.dcpAbs addr) s
/-- DCP izy, $D3 (R297). -/
def execDcpIzy (z : Byte) (s : State) : Result := opDcp (.dcpIzy z) s
/-- DCP zpx, $D7 (R297). -/
def execDcpZpx (z : Byte) (s : State) : Result := opDcp (.dcpZpx z) s
/-- DCP aby, $DB (R297). -/
def execDcpAby (addr : Word) (s : State) : Result := opDcp (.dcpAby addr) s
/-- DCP abx, $DF (R297). -/
def execDcpAbx (addr : Word) (s : State) : Result := opDcp (.dcpAbx addr) s

/-- ISC: increment the operand, then SBC it (R298). -/
def opIsc (i : Instr) (s : State) : Result := modifyOp i (fun v _ => v + 1) (fun _ new t => sbcEffect new t) s

/-- ISC izx, $E3 (R298). -/
def execIscIzx (z : Byte) (s : State) : Result := opIsc (.iscIzx z) s
/-- ISC zp, $E7 (R298). -/
def execIscZp (z : Byte) (s : State) : Result := opIsc (.iscZp z) s
/-- ISC abs, $EF (R298). -/
def execIscAbs (addr : Word) (s : State) : Result := opIsc (.iscAbs addr) s
/-- ISC izy, $F3 (R298). -/
def execIscIzy (z : Byte) (s : State) : Result := opIsc (.iscIzy z) s
/-- ISC zpx, $F7 (R298). -/
def execIscZpx (z : Byte) (s : State) : Result := opIsc (.iscZpx z) s
/-- ISC aby, $FB (R298). -/
def execIscAby (addr : Word) (s : State) : Result := opIsc (.iscAby addr) s
/-- ISC abx, $FF (R298). -/
def execIscAbx (addr : Word) (s : State) : Result := opIsc (.iscAbx addr) s

/-- SAX: store A AND X (R295). -/
def opSax (i : Instr) (s : State) : Result := writeOp i (fun t => t.a &&& t.x) s

/-- SAX izx, $83 (R295). -/
def execSaxIzx (z : Byte) (s : State) : Result := opSax (.saxIzx z) s
/-- SAX zp, $87 (R295). -/
def execSaxZp (z : Byte) (s : State) : Result := opSax (.saxZp z) s
/-- SAX abs, $8F (R295). -/
def execSaxAbs (addr : Word) (s : State) : Result := opSax (.saxAbs addr) s
/-- SAX zpy, $97 (R295). -/
def execSaxZpy (z : Byte) (s : State) : Result := opSax (.saxZpy z) s

/-- LAX: load A and X (R296). -/
def opLax (i : Instr) (s : State) : Result := readOp i (fun m t => loadX m { t with a := m }) s

/-- LAX izx, $A3 (R296). -/
def execLaxIzx (z : Byte) (s : State) : Result := opLax (.laxIzx z) s
/-- LAX zp, $A7 (R296). -/
def execLaxZp (z : Byte) (s : State) : Result := opLax (.laxZp z) s
/-- LAX abs, $AF (R296). -/
def execLaxAbs (addr : Word) (s : State) : Result := opLax (.laxAbs addr) s
/-- LAX izy, $B3 (R296). -/
def execLaxIzy (z : Byte) (s : State) : Result := opLax (.laxIzy z) s
/-- LAX zpy, $B7 (R296). -/
def execLaxZpy (z : Byte) (s : State) : Result := opLax (.laxZpy z) s
/-- LAX aby, $BF (R296). -/
def execLaxAby (addr : Word) (s : State) : Result := opLax (.laxAby addr) s

/-- A, X and S ← v, SetNZ (R305). -/
def loadAXS (v : Byte) (s : State) : State := { s with a := v, x := v, sp := v, p := putNZ v s.p }

/-- LAS: A, X and S ← M AND S (R305). -/
def opLas (i : Instr) (s : State) : Result := readOp i (fun m t => loadAXS (m &&& t.sp) t) s

/-- LAS aby, $BB (R305). -/
def execLas (addr : Word) (s : State) : Result := opLas (.las addr) s

/-- ANC: AND, then C ← bit 7 of A (R299). -/
def opAnc (i : Instr) (s : State) : Result := readOp i (fun m t => loadA (t.a &&& m) { t with p := putFlag .c ((t.a &&& m).getLsbD 7) t.p }) s

/-- ANC imm, $0B (R299). -/
def execAncImm0B (v : Byte) (s : State) : Result := opAnc (.ancImm0B v) s
/-- ANC imm, $2B (R299). -/
def execAncImm2B (v : Byte) (s : State) : Result := opAnc (.ancImm2B v) s

/-- ALR: AND, then LSR of A (R300). -/
def opAlr (i : Instr) (s : State) : Result := readOp i (fun m t => loadA (shiftRight (t.a &&& m)) { t with p := putFlag .c ((t.a &&& m).getLsbD 0) t.p }) s

/-- ALR imm, $4B (R300). -/
def execAlr (v : Byte) (s : State) : Result := opAlr (.alr v) s

/-- ARR: AND, then rotate right with adder side effects (R301). -/
def opArr (i : Instr) (s : State) : Result := readOp i (fun m t => { t with a := (arrByMode (t.a &&& m) t.p).1, p := (arrByMode (t.a &&& m) t.p).2 }) s

/-- ARR imm, $6B (R301). -/
def execArr (v : Byte) (s : State) : Result := opArr (.arr v) s

/-- SBX: X ← (A AND X) - M with the flags of a compare; no borrow in, no decimal mode (R302). -/
def opSbx (i : Instr) (s : State) : Result := readOp i (fun m t => { t with x := (t.a &&& t.x) - m, p := putCompare (t.a &&& t.x) m t.p }) s

/-- SBX imm, $CB (R302). -/
def execSbx (v : Byte) (s : State) : Result := opSbx (.sbx v) s

/-- The next use of the unstable opcodes draws anew. -/
def drawn (s : State) : State := { s with draws := s.draws + 1 }

/-- ANE: A ← (A OR magic) AND X AND M with a free magic byte, SetNZ (R306, U5). Log 5. -/
def opAne (i : Instr) (s : State) : Result := readOp i (fun m t => drawn (loadA ((t.a ||| Config.aneMagic t.draws) &&& t.x &&& m) t)) s

/-- ANE imm, $8B (R306). -/
def execAne (v : Byte) (s : State) : Result := opAne (.ane v) s

/-- LXA: A and X ← (A OR magic) AND M with a free magic byte, SetNZ (R307, U5). Log 5. -/
def opLxa (i : Instr) (s : State) : Result := readOp i (fun m t =>
    drawn (loadX ((t.a ||| Config.lxaMagic t.draws) &&& m) { t with a := (t.a ||| Config.lxaMagic t.draws) &&& m })) s

/-- LXA imm, $AB (R307). -/
def execLxa (v : Byte) (s : State) : Result := opLxa (.lxa v) s

/-- Where an unstable store writes: EA, and when the index crossed a page a free high byte over EA's low byte (section 5 of
spec/48_undocumented.md). Log 7. -/
def unstableAddr (r : Resolved) : Word :=
  if r.crossed then word (Config.crossedHigh r.state.draws) (lo r.ea) else r.ea

/-- What an unstable store writes: `mask` AND the analogue factor that stands for H = hi(base) + 1; a free byte when the index
crossed a page (R308 to R311, U5). Log 6, 7. -/
def unstableValue (r : Resolved) (mask : Byte) : Byte :=
  if r.crossed then Config.crossedValue r.state.draws else mask &&& Config.unstableHigh r.state.draws (hi r.base + 1)

/-- The unstable stores: EA is not read, no flag is written, no penalty cycle (R308). `mask` is the register part of the value. -/
def unstableStore (i : Instr) (mask : State → Byte) (s : State) : Result :=
  let r := resolve i.operand s
  .next (retire i r.crossed (drawn (busWrite r.state (unstableAddr r) (unstableValue r (mask s)))))

/-- SHA: stores from A AND X (R308). -/
def opSha (i : Instr) (s : State) : Result := unstableStore i (fun t => t.a &&& t.x) s

/-- SHA izy, $93 (R308). -/
def execShaIzy (z : Byte) (s : State) : Result := opSha (.shaIzy z) s
/-- SHA aby, $9F (R308). -/
def execShaAby (addr : Word) (s : State) : Result := opSha (.shaAby addr) s

/-- SHX: stores from X (R309). -/
def opShx (i : Instr) (s : State) : Result := unstableStore i State.x s

/-- SHX aby, $9E (R309). -/
def execShx (addr : Word) (s : State) : Result := opShx (.shx addr) s

/-- SHY: stores from Y (R310). -/
def opShy (i : Instr) (s : State) : Result := unstableStore i State.y s

/-- SHY abx, $9C (R310). -/
def execShy (addr : Word) (s : State) : Result := opShy (.shy addr) s

/-- TAS: S ← A AND X, then stores from S (R311). S is so too when the index crosses a page, which section 5 of
spec/48_undocumented.md does not define: DESIGN CHOICE, log 7. -/
def opTas (i : Instr) (s : State) : Result := unstableStore i State.sp { s with sp := s.a &&& s.x }

/-- TAS aby, $9B (R311). -/
def execTas (addr : Word) (s : State) : Result := opTas (.tas addr) s

/-- JAM: Halt; PC stays on the opcode (R312, R331). -/
def opJam (_ : Instr) (s : State) : Result := .next (raiseHalt s)

/-- JAM no mode, $02 (R312). -/
def execJam02 (s : State) : Result := opJam .jam02 s
/-- JAM no mode, $12 (R312). -/
def execJam12 (s : State) : Result := opJam .jam12 s
/-- JAM no mode, $22 (R312). -/
def execJam22 (s : State) : Result := opJam .jam22 s
/-- JAM no mode, $32 (R312). -/
def execJam32 (s : State) : Result := opJam .jam32 s
/-- JAM no mode, $42 (R312). -/
def execJam42 (s : State) : Result := opJam .jam42 s
/-- JAM no mode, $52 (R312). -/
def execJam52 (s : State) : Result := opJam .jam52 s
/-- JAM no mode, $62 (R312). -/
def execJam62 (s : State) : Result := opJam .jam62 s
/-- JAM no mode, $72 (R312). -/
def execJam72 (s : State) : Result := opJam .jam72 s
/-- JAM no mode, $92 (R312). -/
def execJam92 (s : State) : Result := opJam .jam92 s
/-- JAM no mode, $B2 (R312). -/
def execJamB2 (s : State) : Result := opJam .jamB2 s
/-- JAM no mode, $D2 (R312). -/
def execJamD2 (s : State) : Result := opJam .jamD2 s
/-- JAM no mode, $F2 (R312). -/
def execJamF2 (s : State) : Result := opJam .jamF2 s

end Sys2Proof.Machine
end

