-- ==== Sys2Proof/Machine/Environment.lean ====
section
/-! DEFINITION. What the environment does at an instruction boundary (R14, R390): interrupt requests (R337, R338), reset
(R380), the cartridge lines (R33), the host's accesses and writes (R391, R395), a program load (R392); and the held step
(R353). -/

namespace Sys2Proof.Machine

/-- `irq()` (R337): nothing when halted or when P.I = 1; else the exception by the IRQ vector, and 7 cycles (R350). -/
def irqRequest (s : State) : State :=
  if s.halted || getFlag .i s.p then s
  else
    let t := takeException s s.pc (pushedByIrq s.p) Flag.i.mask vectorIrq
    { t with cycles := t.cycles + 7 }

/-- `nmi()` (R338): nothing when halted; else the exception by the NMI vector with P.B and P.I set, and 7 cycles (R350). -/
def nmiRequest (s : State) : State :=
  if s.halted then s
  else
    let t := takeException s s.pc (pushedByNmi s.p) (Flag.b.mask ||| Flag.i.mask) vectorNmi
    { t with cycles := t.cycles + 7 }

/-- The state in which reset reads its vector (R380): every register at its reset value, the latch set, RAM drawn anew (R383).
GAME and EXROM are inputs and keep their values (R382), as do the setup (R42) and what the environment will do. -/
def resetBeforeVector (s : State) : State :=
  { s with
    a := 0x00
    x := 0x00
    y := 0x00
    sp := 0xFD
    p := Config.resetP s.setup.resetP
    latch := { s.latch with loram := true, hiram := true, charen := true }
    ram := []
    halted := false
    cycles := 0
    report := .nothing
    epoch := s.epoch + 1 }

/-- `reset()` (R380): PC is read from the reset vector under the latch just set. -/
def resetEvent (s : State) : State :=
  let s1 := resetBeforeVector s
  { afterReadWord s1 vectorReset with pc := peekWord s1 vectorReset }

/-- Several requests at one boundary (R341, D13): reset discards the others; else NMI, then IRQ. -/
def togetherEvent (reset nmi irq : Bool) (s : State) : State :=
  if reset then resetEvent s
  else
    let s1 := if nmi then nmiRequest s else s
    if irq then irqRequest s1 else s1

/-- A host write of a register; a write of P forces bit 5 (R395). -/
def setReg (w : HostWrite) (s : State) : State :=
  match w with
  | .a v => { s with a := v }
  | .x v => { s with x := v }
  | .y v => { s with y := v }
  | .s v => { s with sp := v }
  | .p v => { s with p := restoredP v }
  | .pc v => { s with pc := v }

/-- Bytes stored raw from an address up, mod 65536 (R392). -/
def rawWriteAll (s : State) (a : Word) : List Byte → State
  | [] => s
  | b :: rest => rawWriteAll (rawWrite s a b) (a + 1) rest

/-- Every pointer's two bytes set to a word, low byte first (R392). -/
def patchPointers (s : State) (w : Word) : List Word → State
  | [] => s
  | q :: rest => patchPointers (rawWrite (rawWrite s q (lo w)) (q + 1) (hi w)) w rest

/-- The fixed BASIC program start address, known to the loader alone (R69, R392). -/
def basicStart : Word := 0x0801

/-- `loadProgram` (R392): a little-endian load address, then data, stored raw; at $0801 the given pointers are patched to
$0801 + N. The pointers' addresses are not in the source (N24): the environment gives them. A file of fewer than two bytes
is the host's error and does nothing here. Log 12. -/
def loadProgram (file : List Byte) (pointers : List Word) (s : State) : State :=
  match file with
  | b0 :: b1 :: data =>
    let start := word b1 b0
    let s1 := rawWriteAll s start data
    if start = basicStart then patchPointers s1 (basicStart + BitVec.ofNat 16 data.length) pointers else s1
  | _ => s

/-- A held step of an instruction with a mode (R353): its pointer reads are made, it reports 0, nothing else changes. `s` is
the state after the fetch. -/
def heldStep (i : Instr) (s : State) : State := { (resolve i.operand s).state with report := .cycles 0 }

/-- A turn of the environment other than a step request. -/
def environmentTurn (t : Turn) (s : State) : State :=
  match t with
  | .instr _ => s
  | .irq => irqRequest s
  | .nmi => nmiRequest s
  | .reset => resetEvent s
  | .together r n i => togetherEvent r n i s
  | .lines game exrom => { s with latch := { s.latch with game := game, exrom := exrom } }
  | .mappedRead a => afterRead s a
  | .mappedWrite a v => busWrite s a v
  | .rawWrite a v => rawWrite s a v
  | .setReg w => setReg w s
  | .loadProgram file pointers => loadProgram file pointers s

end Sys2Proof.Machine
end

