-- ==== Sys2Proof/Machine/Step.lean ====
section
/-! DEFINITION. One step of the machine: the environment's next turn, or one instruction (R14, R110). -/

namespace Sys2Proof.Machine

/-- A step request (R110): when halted it reports -1 and reads nothing (R331); else fetch, then the held step, or the
instruction. The Halt check comes before the hold (R341). -/
def stepRequest (hold : Bool) (s : State) : Result :=
  if s.halted then .next { s with report := .halt }
  else
    let f := fetch s
    if hold && f.1.mnemonic != .jam then .next (heldStep f.1 f.2) else exec f.1 f.2

/-- One transition: the environment's next turn; a plain step with hold = 0 when it has none (R14, R352). -/
def step (s : State) : Host.Outcome State Fault Refusal :=
  match s.env with
  | [] => stepRequest false s
  | .instr hold :: rest => stepRequest hold { s with env := rest }
  | t :: rest => .next (environmentTurn t { s with env := rest })

/-- Where a program loaded from outside starts: RAM or the RAM underneath in every latch setting (R65, R72). Log 13. -/
def programStart : Word := 0xC000

/-- The host's load of one instruction (R391, R395, R386): its bytes stored raw at $C000, PC set there, the halted flag clear
and no turn of the environment before it. Log 13. -/
def State.withFetchWord (s : State) (nbits w : Nat) : State :=
  { rawWriteAll s programStart (tableBytes nbits w) with pc := programStart, halted := false, env := [] }

end Sys2Proof.Machine
end

