-- ==== Sys2Proof/Safety.lean ====
section
/-! DEFINITION. What a safe run is, in the words the claims use: the invariant of the machine, the outcomes, the two detectors
of R385, and the vocabulary of frames (what an instruction leaves as it was). -/

namespace Sys2Proof.Machine

/-- The canonical form of the machine's four stores: RAM and the three ROM images (R37). -/
def MemoriesWf (s : State) : Prop :=
  Memory.wf 0x10000 s.ram = true ∧ Memory.wf 0x2000 s.setup.basicRom = true ∧
    Memory.wf 0x2000 s.setup.kernalRom = true ∧ Memory.wf 0x1000 s.setup.charRom = true

/-- The unused flag reads 1 (R25, R26). -/
def UnusedSet (s : State) : Prop := getFlag .u s.p = true

/-- The canonical form of CYCLE_TABLE: opcodes strictly rising. -/
abbrev CycleTable.wf (t : CycleTable) : Prop := t.Pairwise fun x y => x.1 < y.1

/-- The invariant that every transition keeps: canonical memories and cycle table, and P.U = 1. -/
structure Inv (s : State) : Prop where
  memories : MemoriesWf s
  cycleTable : s.setup.cycleTable.wf
  unused : UnusedSet s

/-- The next transition is a plain instruction: no turn of the environment is due and the core is not halted. -/
def Running (s : State) : Prop := s.env = [] ∧ s.halted = false

/-- R385's stall: a step after which PC equals the PC before it. The step is one instruction (R13, R110), whatever the
environment's coming turns are: a turn is no step, and a halted core takes none. Log 23. -/
def Stalls (s : State) : Prop := s.halted = false ∧ ∃ t, stepRequest false s = .next t ∧ t.pc = s.pc

/-- R385's success: PC at a named address. -/
def Succeeds (goal : Word) (s : State) : Prop := s.pc = goal

/-- The four byte registers that are not P. -/
inductive Reg where
  | a | x | y | s
  deriving DecidableEq, Repr

/-- The value of a byte register. -/
def State.reg (t : State) : Reg → Byte
  | .a => t.a
  | .x => t.x
  | .y => t.y
  | .s => t.sp

/-- From `s` to `t` no byte register but those listed and no flag but those listed has changed, nor what no instruction may
touch: the setup, the halted flag, the environment's turns, the reset count. -/
structure Kept (regs : List Reg) (flags : List Flag) (s t : State) : Prop where
  regs : ∀ r, r ∉ regs → t.reg r = s.reg r
  flags : ∀ f, f ∉ flags → getFlag f t.p = getFlag f s.p
  setup : t.setup = s.setup
  halted : t.halted = s.halted
  env : t.env = s.env
  epoch : t.epoch = s.epoch

/-- No byte of RAM and no bit of the latch has changed. -/
structure MemoryKept (s t : State) : Prop where
  latch : t.latch = s.latch
  bytes : ∀ a, ramByte t a = ramByte s a

/-- From `s` to `t` exactly the byte `v` was written at `ea` through the bus (R71): to the device port if it is selected,
else to RAM, with the latch at $0001. -/
structure Stored (ea : Word) (v : Byte) (s t : State) : Prop where
  elsewhere : ∀ b, b ≠ ea → ramByte t b = ramByte s b
  toRam : selectsPort s ea = false → ramByte t ea = v ∧ t.portLog = s.portLog
  toPort : selectsPort s ea = true → ramByte t ea = ramByte s ea ∧ t.portLog = s.portLog ++ [.write ea v]
  latch : t.latch = if ea = 0x0001 then setLatch s.latch v else s.latch

/-- From `s` to `t` exactly the bytes listed were stored in page 1, each at the address beside it; the latch and the device
port saw nothing. -/
structure Stacked (bytes : List (Word × Byte)) (s t : State) : Prop where
  pushed : ∀ e, e ∈ bytes → ramByte t e.1 = e.2
  elsewhere : ∀ b, b ∉ bytes.map Prod.fst → ramByte t b = ramByte s b
  latch : t.latch = s.latch
  portLog : t.portLog = s.portLog

/-- `t` has reported `n` cycles more than `s` had (R400). -/
def Costs (n : Nat) (s t : State) : Prop := t.cycles = s.cycles + n ∧ t.report = .cycles n

/-- The end of an instruction that is no control transfer: PC has moved past it, and its base cycles and page penalty are
counted (R24, R110, R156). -/
structure Retired (i : Instr) (crossed : Bool) (s t : State) : Prop where
  pc : t.pc = s.pc + BitVec.ofNat 16 i.size
  cost : Costs (baseCycles s.setup i + penalty i crossed) s t

/-- N and Z are those of a byte (R11's SetNZ). -/
def NZOf (v p : Byte) : Prop := getFlag .n p = v.getLsbD 7 ∧ getFlag .z p = (v == 0)

/-- N, V, Z and C are those of an addition or subtraction. -/
def AluFlags (r : AluResult) (p : Byte) : Prop :=
  getFlag .n p = r.n ∧ getFlag .v p = r.v ∧ getFlag .z p = r.z ∧ getFlag .c p = r.c

/-- N, Z and C are those of a compare of `r` with `m` (R204). -/
def CompareFlags (r m p : Byte) : Prop :=
  getFlag .c p = decide (m.toNat ≤ r.toNat) ∧ getFlag .z p = decide (r = m) ∧ getFlag .n p = (r - m).getLsbD 7

/-- The effective address of an instruction in a state. -/
def addressOf (i : Instr) (s : State) : Word := (resolve i.operand s).ea

/-- Whether an instruction's index carries into the high byte of the address. -/
def crosses (i : Instr) (s : State) : Bool := (resolve i.operand s).crossed

/-- The state after an instruction's pointer reads. -/
def resolvedState (i : Instr) (s : State) : State := (resolve i.operand s).state

/-- The operand byte M that an instruction of the read or read-modify-write class reads. -/
def operandOf (i : Instr) (s : State) : Byte := operandByte i.operand (resolve i.operand s)

/-- The state after that read. -/
def readState (i : Instr) (s : State) : State := afterOperand i.operand (resolve i.operand s)

/-- `n` bytes read one after the other through the bus from an address up, mod 65536, and the state after the reads (R115). -/
def readBytes : Nat → Word → State → List Byte × State
  | 0, _, s => ([], s)
  | n + 1, a, s => (peek s a :: (readBytes n (a + 1) (afterRead s a)).1, (readBytes n (a + 1) (afterRead s a)).2)

/-- The addressing-mode tags (R113), and `inv` (R154). -/
inductive Tag where
  | imp | acc | imm | zp | zpx | zpy | abs | abx | aby | rel | ind | izx | izy | inv
  deriving DecidableEq, Repr

/-- The tag of an operand. -/
def tagOf : Operand → Tag
  | .imp => .imp
  | .acc => .acc
  | .imm _ => .imm
  | .zp _ => .zp
  | .zpx _ => .zpx
  | .zpy _ => .zpy
  | .abs _ => .abs
  | .abx _ => .abx
  | .aby _ => .aby
  | .rel _ => .rel
  | .ind _ => .ind
  | .izx _ => .izx
  | .izy _ => .izy
  | .inv => .inv

/-- One entry of a rule's Encoding line: tag, opcode, length, base cycles, `+`. -/
structure Form where
  tag : Tag
  opcode : Byte
  length : Nat
  cycles : Nat
  plus : Bool
  deriving DecidableEq, Repr

/-- The form of an instruction; its count is CYCLE_TABLE's default. -/
def formOf (i : Instr) : Form := ⟨tagOf i.operand, i.opcode, i.size, i.row.cycles, i.row.penalty⟩

/-- The Encoding line of every mnemonic, entry by entry as the rules R170 to R312 print them (NOP's from R287 and R304, SBC's
with R303). JAM reports no cycles (R312); its 0 stands for none. -/
def formsOf : Mnemonic → List Form
  | .lda =>
    [⟨.imm, 0xA9, 2, 2, false⟩, ⟨.zp, 0xA5, 2, 3, false⟩, ⟨.zpx, 0xB5, 2, 4, false⟩, ⟨.abs, 0xAD, 3, 4, false⟩,
     ⟨.abx, 0xBD, 3, 4, true⟩, ⟨.aby, 0xB9, 3, 4, true⟩, ⟨.izx, 0xA1, 2, 6, false⟩, ⟨.izy, 0xB1, 2, 5, true⟩]
  | .ldx =>
    [⟨.imm, 0xA2, 2, 2, false⟩, ⟨.zp, 0xA6, 2, 3, false⟩, ⟨.zpy, 0xB6, 2, 4, false⟩, ⟨.abs, 0xAE, 3, 4, false⟩,
     ⟨.aby, 0xBE, 3, 4, true⟩]
  | .ldy =>
    [⟨.imm, 0xA0, 2, 2, false⟩, ⟨.zp, 0xA4, 2, 3, false⟩, ⟨.zpx, 0xB4, 2, 4, false⟩, ⟨.abs, 0xAC, 3, 4, false⟩,
     ⟨.abx, 0xBC, 3, 4, true⟩]
  | .sta =>
    [⟨.zp, 0x85, 2, 3, false⟩, ⟨.zpx, 0x95, 2, 4, false⟩, ⟨.abs, 0x8D, 3, 4, false⟩, ⟨.abx, 0x9D, 3, 5, false⟩,
     ⟨.aby, 0x99, 3, 5, false⟩, ⟨.izx, 0x81, 2, 6, false⟩, ⟨.izy, 0x91, 2, 6, false⟩]
  | .stx =>
    [⟨.zp, 0x86, 2, 3, false⟩, ⟨.zpy, 0x96, 2, 4, false⟩, ⟨.abs, 0x8E, 3, 4, false⟩]
  | .sty =>
    [⟨.zp, 0x84, 2, 3, false⟩, ⟨.zpx, 0x94, 2, 4, false⟩, ⟨.abs, 0x8C, 3, 4, false⟩]
  | .tax =>
    [⟨.imp, 0xAA, 1, 2, false⟩]
  | .tay =>
    [⟨.imp, 0xA8, 1, 2, false⟩]
  | .txa =>
    [⟨.imp, 0x8A, 1, 2, false⟩]
  | .tya =>
    [⟨.imp, 0x98, 1, 2, false⟩]
  | .tsx =>
    [⟨.imp, 0xBA, 1, 2, false⟩]
  | .txs =>
    [⟨.imp, 0x9A, 1, 2, false⟩]
  | .pha =>
    [⟨.imp, 0x48, 1, 3, false⟩]
  | .php =>
    [⟨.imp, 0x08, 1, 3, false⟩]
  | .pla =>
    [⟨.imp, 0x68, 1, 4, false⟩]
  | .plp =>
    [⟨.imp, 0x28, 1, 4, false⟩]
  | .adc =>
    [⟨.imm, 0x69, 2, 2, false⟩, ⟨.zp, 0x65, 2, 3, false⟩, ⟨.zpx, 0x75, 2, 4, false⟩, ⟨.abs, 0x6D, 3, 4, false⟩,
     ⟨.abx, 0x7D, 3, 4, true⟩, ⟨.aby, 0x79, 3, 4, true⟩, ⟨.izx, 0x61, 2, 6, false⟩, ⟨.izy, 0x71, 2, 5, true⟩]
  | .sbc =>
    [⟨.imm, 0xE9, 2, 2, false⟩, ⟨.zp, 0xE5, 2, 3, false⟩, ⟨.zpx, 0xF5, 2, 4, false⟩, ⟨.abs, 0xED, 3, 4, false⟩,
     ⟨.abx, 0xFD, 3, 4, true⟩, ⟨.aby, 0xF9, 3, 4, true⟩, ⟨.izx, 0xE1, 2, 6, false⟩, ⟨.izy, 0xF1, 2, 5, true⟩,
     ⟨.imm, 0xEB, 2, 2, false⟩]
  | .cmp =>
    [⟨.imm, 0xC9, 2, 2, false⟩, ⟨.zp, 0xC5, 2, 3, false⟩, ⟨.zpx, 0xD5, 2, 4, false⟩, ⟨.abs, 0xCD, 3, 4, false⟩,
     ⟨.abx, 0xDD, 3, 4, true⟩, ⟨.aby, 0xD9, 3, 4, true⟩, ⟨.izx, 0xC1, 2, 6, false⟩, ⟨.izy, 0xD1, 2, 5, true⟩]
  | .cpx =>
    [⟨.imm, 0xE0, 2, 2, false⟩, ⟨.zp, 0xE4, 2, 3, false⟩, ⟨.abs, 0xEC, 3, 4, false⟩]
  | .cpy =>
    [⟨.imm, 0xC0, 2, 2, false⟩, ⟨.zp, 0xC4, 2, 3, false⟩, ⟨.abs, 0xCC, 3, 4, false⟩]
  | .and =>
    [⟨.imm, 0x29, 2, 2, false⟩, ⟨.zp, 0x25, 2, 3, false⟩, ⟨.zpx, 0x35, 2, 4, false⟩, ⟨.abs, 0x2D, 3, 4, false⟩,
     ⟨.abx, 0x3D, 3, 4, true⟩, ⟨.aby, 0x39, 3, 4, true⟩, ⟨.izx, 0x21, 2, 6, false⟩, ⟨.izy, 0x31, 2, 5, true⟩]
  | .ora =>
    [⟨.imm, 0x09, 2, 2, false⟩, ⟨.zp, 0x05, 2, 3, false⟩, ⟨.zpx, 0x15, 2, 4, false⟩, ⟨.abs, 0x0D, 3, 4, false⟩,
     ⟨.abx, 0x1D, 3, 4, true⟩, ⟨.aby, 0x19, 3, 4, true⟩, ⟨.izx, 0x01, 2, 6, false⟩, ⟨.izy, 0x11, 2, 5, true⟩]
  | .eor =>
    [⟨.imm, 0x49, 2, 2, false⟩, ⟨.zp, 0x45, 2, 3, false⟩, ⟨.zpx, 0x55, 2, 4, false⟩, ⟨.abs, 0x4D, 3, 4, false⟩,
     ⟨.abx, 0x5D, 3, 4, true⟩, ⟨.aby, 0x59, 3, 4, true⟩, ⟨.izx, 0x41, 2, 6, false⟩, ⟨.izy, 0x51, 2, 5, true⟩]
  | .bit =>
    [⟨.zp, 0x24, 2, 3, false⟩, ⟨.abs, 0x2C, 3, 4, false⟩]
  | .asl =>
    [⟨.acc, 0x0A, 1, 2, false⟩, ⟨.zp, 0x06, 2, 5, false⟩, ⟨.zpx, 0x16, 2, 6, false⟩, ⟨.abs, 0x0E, 3, 6, false⟩,
     ⟨.abx, 0x1E, 3, 7, false⟩]
  | .lsr =>
    [⟨.acc, 0x4A, 1, 2, false⟩, ⟨.zp, 0x46, 2, 5, false⟩, ⟨.zpx, 0x56, 2, 6, false⟩, ⟨.abs, 0x4E, 3, 6, false⟩,
     ⟨.abx, 0x5E, 3, 7, false⟩]
  | .rol =>
    [⟨.acc, 0x2A, 1, 2, false⟩, ⟨.zp, 0x26, 2, 5, false⟩, ⟨.zpx, 0x36, 2, 6, false⟩, ⟨.abs, 0x2E, 3, 6, false⟩,
     ⟨.abx, 0x3E, 3, 7, false⟩]
  | .ror =>
    [⟨.acc, 0x6A, 1, 2, false⟩, ⟨.zp, 0x66, 2, 5, false⟩, ⟨.zpx, 0x76, 2, 6, false⟩, ⟨.abs, 0x6E, 3, 6, false⟩,
     ⟨.abx, 0x7E, 3, 7, false⟩]
  | .inc =>
    [⟨.zp, 0xE6, 2, 5, false⟩, ⟨.zpx, 0xF6, 2, 6, false⟩, ⟨.abs, 0xEE, 3, 6, false⟩, ⟨.abx, 0xFE, 3, 7, false⟩]
  | .dec =>
    [⟨.zp, 0xC6, 2, 5, false⟩, ⟨.zpx, 0xD6, 2, 6, false⟩, ⟨.abs, 0xCE, 3, 6, false⟩, ⟨.abx, 0xDE, 3, 7, false⟩]
  | .inx =>
    [⟨.imp, 0xE8, 1, 2, false⟩]
  | .iny =>
    [⟨.imp, 0xC8, 1, 2, false⟩]
  | .dex =>
    [⟨.imp, 0xCA, 1, 2, false⟩]
  | .dey =>
    [⟨.imp, 0x88, 1, 2, false⟩]
  | .jmp =>
    [⟨.abs, 0x4C, 3, 3, false⟩, ⟨.ind, 0x6C, 3, 5, false⟩]
  | .jsr =>
    [⟨.abs, 0x20, 3, 6, false⟩]
  | .rts =>
    [⟨.imp, 0x60, 1, 6, false⟩]
  | .rti =>
    [⟨.imp, 0x40, 1, 6, false⟩]
  | .brk =>
    [⟨.imp, 0x00, 1, 7, false⟩]
  | .bpl =>
    [⟨.rel, 0x10, 2, 2, false⟩]
  | .bmi =>
    [⟨.rel, 0x30, 2, 2, false⟩]
  | .bvc =>
    [⟨.rel, 0x50, 2, 2, false⟩]
  | .bvs =>
    [⟨.rel, 0x70, 2, 2, false⟩]
  | .bcc =>
    [⟨.rel, 0x90, 2, 2, false⟩]
  | .bcs =>
    [⟨.rel, 0xB0, 2, 2, false⟩]
  | .bne =>
    [⟨.rel, 0xD0, 2, 2, false⟩]
  | .beq =>
    [⟨.rel, 0xF0, 2, 2, false⟩]
  | .clc =>
    [⟨.imp, 0x18, 1, 2, false⟩]
  | .sec =>
    [⟨.imp, 0x38, 1, 2, false⟩]
  | .cli =>
    [⟨.imp, 0x58, 1, 2, false⟩]
  | .sei =>
    [⟨.imp, 0x78, 1, 2, false⟩]
  | .cld =>
    [⟨.imp, 0xD8, 1, 2, false⟩]
  | .sed =>
    [⟨.imp, 0xF8, 1, 2, false⟩]
  | .clv =>
    [⟨.imp, 0xB8, 1, 2, false⟩]
  | .nop =>
    [⟨.imp, 0xEA, 1, 2, false⟩, ⟨.imp, 0x1A, 1, 2, false⟩, ⟨.imp, 0x3A, 1, 2, false⟩,
     ⟨.imp, 0x5A, 1, 2, false⟩, ⟨.imp, 0x7A, 1, 2, false⟩, ⟨.imp, 0xDA, 1, 2, false⟩,
     ⟨.imp, 0xFA, 1, 2, false⟩, ⟨.imm, 0x80, 2, 2, false⟩, ⟨.imm, 0x82, 2, 2, false⟩,
     ⟨.imm, 0x89, 2, 2, false⟩, ⟨.imm, 0xC2, 2, 2, false⟩, ⟨.imm, 0xE2, 2, 2, false⟩, ⟨.zp, 0x04, 2, 3, false⟩,
     ⟨.zp, 0x44, 2, 3, false⟩, ⟨.zp, 0x64, 2, 3, false⟩, ⟨.zpx, 0x14, 2, 4, false⟩, ⟨.zpx, 0x34, 2, 4, false⟩,
     ⟨.zpx, 0x54, 2, 4, false⟩, ⟨.zpx, 0x74, 2, 4, false⟩, ⟨.zpx, 0xD4, 2, 4, false⟩,
     ⟨.zpx, 0xF4, 2, 4, false⟩, ⟨.abs, 0x0C, 3, 4, false⟩, ⟨.abx, 0x1C, 3, 4, true⟩, ⟨.abx, 0x3C, 3, 4, true⟩,
     ⟨.abx, 0x5C, 3, 4, true⟩, ⟨.abx, 0x7C, 3, 4, true⟩, ⟨.abx, 0xDC, 3, 4, true⟩, ⟨.abx, 0xFC, 3, 4, true⟩]
  | .slo =>
    [⟨.zp, 0x07, 2, 5, false⟩, ⟨.zpx, 0x17, 2, 6, false⟩, ⟨.abs, 0x0F, 3, 6, false⟩, ⟨.abx, 0x1F, 3, 7, false⟩,
     ⟨.aby, 0x1B, 3, 7, false⟩, ⟨.izx, 0x03, 2, 8, false⟩, ⟨.izy, 0x13, 2, 8, false⟩]
  | .rla =>
    [⟨.zp, 0x27, 2, 5, false⟩, ⟨.zpx, 0x37, 2, 6, false⟩, ⟨.abs, 0x2F, 3, 6, false⟩, ⟨.abx, 0x3F, 3, 7, false⟩,
     ⟨.aby, 0x3B, 3, 7, false⟩, ⟨.izx, 0x23, 2, 8, false⟩, ⟨.izy, 0x33, 2, 8, false⟩]
  | .sre =>
    [⟨.zp, 0x47, 2, 5, false⟩, ⟨.zpx, 0x57, 2, 6, false⟩, ⟨.abs, 0x4F, 3, 6, false⟩, ⟨.abx, 0x5F, 3, 7, false⟩,
     ⟨.aby, 0x5B, 3, 7, false⟩, ⟨.izx, 0x43, 2, 8, false⟩, ⟨.izy, 0x53, 2, 8, false⟩]
  | .rra =>
    [⟨.zp, 0x67, 2, 5, false⟩, ⟨.zpx, 0x77, 2, 6, false⟩, ⟨.abs, 0x6F, 3, 6, false⟩, ⟨.abx, 0x7F, 3, 7, false⟩,
     ⟨.aby, 0x7B, 3, 7, false⟩, ⟨.izx, 0x63, 2, 8, false⟩, ⟨.izy, 0x73, 2, 8, false⟩]
  | .sax =>
    [⟨.zp, 0x87, 2, 3, false⟩, ⟨.zpy, 0x97, 2, 4, false⟩, ⟨.abs, 0x8F, 3, 4, false⟩, ⟨.izx, 0x83, 2, 6, false⟩]
  | .lax =>
    [⟨.zp, 0xA7, 2, 3, false⟩, ⟨.zpy, 0xB7, 2, 4, false⟩, ⟨.abs, 0xAF, 3, 4, false⟩, ⟨.aby, 0xBF, 3, 4, true⟩,
     ⟨.izx, 0xA3, 2, 6, false⟩, ⟨.izy, 0xB3, 2, 5, true⟩]
  | .dcp =>
    [⟨.zp, 0xC7, 2, 5, false⟩, ⟨.zpx, 0xD7, 2, 6, false⟩, ⟨.abs, 0xCF, 3, 6, false⟩, ⟨.abx, 0xDF, 3, 7, false⟩,
     ⟨.aby, 0xDB, 3, 7, false⟩, ⟨.izx, 0xC3, 2, 8, false⟩, ⟨.izy, 0xD3, 2, 8, false⟩]
  | .isc =>
    [⟨.zp, 0xE7, 2, 5, false⟩, ⟨.zpx, 0xF7, 2, 6, false⟩, ⟨.abs, 0xEF, 3, 6, false⟩, ⟨.abx, 0xFF, 3, 7, false⟩,
     ⟨.aby, 0xFB, 3, 7, false⟩, ⟨.izx, 0xE3, 2, 8, false⟩, ⟨.izy, 0xF3, 2, 8, false⟩]
  | .anc =>
    [⟨.imm, 0x0B, 2, 2, false⟩, ⟨.imm, 0x2B, 2, 2, false⟩]
  | .alr =>
    [⟨.imm, 0x4B, 2, 2, false⟩]
  | .arr =>
    [⟨.imm, 0x6B, 2, 2, false⟩]
  | .sbx =>
    [⟨.imm, 0xCB, 2, 2, false⟩]
  | .las =>
    [⟨.aby, 0xBB, 3, 4, true⟩]
  | .ane =>
    [⟨.imm, 0x8B, 2, 2, false⟩]
  | .lxa =>
    [⟨.imm, 0xAB, 2, 2, false⟩]
  | .sha =>
    [⟨.aby, 0x9F, 3, 5, false⟩, ⟨.izy, 0x93, 2, 6, false⟩]
  | .shx =>
    [⟨.aby, 0x9E, 3, 5, false⟩]
  | .shy =>
    [⟨.abx, 0x9C, 3, 5, false⟩]
  | .tas =>
    [⟨.aby, 0x9B, 3, 5, false⟩]
  | .jam =>
    [⟨.inv, 0x02, 1, 0, false⟩, ⟨.inv, 0x12, 1, 0, false⟩, ⟨.inv, 0x22, 1, 0, false⟩,
     ⟨.inv, 0x32, 1, 0, false⟩, ⟨.inv, 0x42, 1, 0, false⟩, ⟨.inv, 0x52, 1, 0, false⟩,
     ⟨.inv, 0x62, 1, 0, false⟩, ⟨.inv, 0x72, 1, 0, false⟩, ⟨.inv, 0x92, 1, 0, false⟩,
     ⟨.inv, 0xB2, 1, 0, false⟩, ⟨.inv, 0xD2, 1, 0, false⟩, ⟨.inv, 0xF2, 1, 0, false⟩]

/-- The instruction has one of the encodings its rule lists, with that length, base count and penalty mark. -/
def Encoded (i : Instr) : Prop := formOf i ∈ formsOf i.mnemonic

/-- All eight flags. -/
def allFlags : List Flag := [.c, .z, .i, .d, .b, .u, .v, .n]

/-- What an implied or accumulator instruction does beside the values named: registers and flags listed may change, PC and the
cycles move on, nothing else. -/
structure ImpliedEffect (i : Instr) (regs : List Reg) (flags : List Flag) (s t : State) : Prop where
  encoded : Encoded i
  kept : Kept regs flags s t
  memory : MemoryKept s t
  portLog : t.portLog = s.portLog
  draws : t.draws = s.draws
  retired : Retired i false s t

/-- What an instruction of the read class does beside the values named (R157): the pointer reads, one read of EA, no write. -/
structure ReadEffect (i : Instr) (regs : List Reg) (flags : List Flag) (s t : State) : Prop where
  encoded : Encoded i
  kept : Kept regs flags s t
  memory : MemoryKept s t
  portLog : t.portLog = (readState i s).portLog
  draws : t.draws = s.draws
  retired : Retired i (crosses i s) s t

/-- What an instruction of the write class does (R157): the pointer reads, then `v` written at EA, and nothing else. -/
structure WriteEffect (i : Instr) (v : Byte) (s t : State) : Prop where
  encoded : Encoded i
  kept : Kept [] [] s t
  stored : Stored (addressOf i s) v (resolvedState i s) t
  draws : t.draws = s.draws
  retired : Retired i (crosses i s) s t

/-- What a read-modify-write instruction on memory does beside the values named (R157, R240): the pointer reads, one read of EA,
then `new` written there. -/
structure ModifyEffect (i : Instr) (new : Byte) (regs : List Reg) (flags : List Flag) (s t : State) : Prop where
  encoded : Encoded i
  kept : Kept regs flags s t
  stored : Stored (addressOf i s) new (readState i s) t
  draws : t.draws = s.draws
  retired : Retired i (crosses i s) s t

/-- What an instruction that pushes or pulls and moves on does beside the values named: `bytes` are the bytes it stacks. -/
structure StackEffect (i : Instr) (bytes : List (Word × Byte)) (regs : List Reg) (flags : List Flag) (s t : State) : Prop where
  encoded : Encoded i
  kept : Kept regs flags s t
  stacked : Stacked bytes s t
  draws : t.draws = s.draws
  retired : Retired i false s t

/-- What a control transfer does beside the values named (R110): PC is its own, the base count and `extra` cycles are
counted, `bytes` are stacked. -/
structure TransferEffect (i : Instr) (target : Word) (extra : Nat) (bytes : List (Word × Byte)) (regs : List Reg)
    (flags : List Flag) (s t : State) : Prop where
  encoded : Encoded i
  pc : t.pc = target
  cost : Costs (baseCycles s.setup i + extra) s t
  kept : Kept regs flags s t
  stacked : Stacked bytes (resolvedState i s) t
  draws : t.draws = s.draws

end Sys2Proof.Machine
end

