-- ==== Sys2Proof/WellFormed.lean ====
section
/-! DEFINITION. Well-formedness. An `Instr` cannot be ill-formed: a constructor exists only for a mnemonic and mode that have
a row (R116), and its operand field has exactly the encoding's width (R112, R115). What can be ill-formed is a list of bytes
offered as the code of one instruction; it is checked here. -/

namespace Sys2Proof

/-- What is wrong with a list of bytes offered as one instruction. -/
inductive CodeFlaw where
  /-- No opcode byte. -/
  | noOpcode
  /-- Fewer bytes than the opcode's format has (R112). -/
  | tooShort
  /-- Bytes left over after the instruction (R114). -/
  | tooLong
  deriving DecidableEq, Repr

/-- The number of bytes an opcode's format has (R112, R114). -/
def Template.length : Template → Nat
  | .one _ => 1
  | .two _ => 2
  | .three _ => 3

/-- Checks that the bytes are the code of exactly one instruction: the opcode byte alone fixes the length (R114). -/
def codeFlaw : List Byte → Option CodeFlaw
  | [] => some .noOpcode
  | op :: rest =>
    if rest.length + 1 < (template op).length then some .tooShort
    else if (template op).length < rest.length + 1 then some .tooLong
    else none

/-- The bytes are the code of exactly one instruction. -/
def wellFormedCode (bs : List Byte) : Bool := codeFlaw bs == none

/-- An instruction is well formed when its bytes are the code of exactly one instruction. Every `Instr` is. -/
def Instr.wellFormed (i : Instr) : Bool := wellFormedCode (encode i)

end Sys2Proof
end

