-- ==== Sys2Proof/Certificates/Slice0/Obligations.lean ====
section
/-! DEFINITION. The statements for the provers, from the numbered rules of spec/. Where a statement rests on a choice, its
docstring names the decision D<n> of spec/92_eei_decisions.md or the log entry. -/

namespace Sys2Proof.Machine

/-- P as R27's table has it: the mnemonics that write each flag. Z and N: "every instruction with SetNZ", BIT, PLP, RTI and the
undocumented ones that write A or X, with DCP among the compares. -/
def flagWriters : Flag → List Mnemonic
  | .c => [.adc, .sbc, .cmp, .cpx, .cpy, .asl, .lsr, .rol, .ror, .clc, .sec, .plp, .rti, .slo, .rla, .sre, .rra, .dcp, .isc,
      .anc, .alr, .arr, .sbx]
  | .z | .n => [.lda, .ldx, .ldy, .tax, .tay, .txa, .tya, .tsx, .pla, .inc, .dec, .inx, .iny, .dex, .dey, .and, .ora, .eor,
      .asl, .lsr, .rol, .ror, .adc, .sbc, .cmp, .cpx, .cpy, .bit, .plp, .rti, .slo, .rla, .sre, .rra, .dcp, .isc, .lax, .las,
      .anc, .alr, .arr, .sbx, .ane, .lxa]
  | .i => [.sei, .cli, .plp, .rti, .brk]
  | .d => [.sed, .cld, .plp, .rti]
  | .b => [.brk, .plp, .rti]
  | .u => [.plp, .rti]
  | .v => [.adc, .sbc, .bit, .clv, .plp, .rti, .rra, .isc, .arr]

/-- The mnemonics that write each byte register (R21, R22, R23). -/
def regWriters : Reg → List Mnemonic
  | .a => [.lda, .pla, .txa, .tya, .adc, .sbc, .and, .ora, .eor, .asl, .lsr, .rol, .ror, .slo, .rla, .sre, .rra, .lax, .isc,
      .anc, .alr, .arr, .las, .ane, .lxa]
  | .x => [.ldx, .tax, .tsx, .inx, .dex, .lax, .sbx, .las, .lxa]
  | .y => [.ldy, .tay, .iny, .dey]
  | .s => [.txs, .pha, .php, .pla, .plp, .jsr, .rts, .rti, .brk, .las, .tas]

/-- The latch of a mode number (R31: `mode = EXROM*16 + GAME*8 + CHAREN*4 + HIRAM*2 + LORAM`). -/
def latchOfMode (m : Nat) : Latch :=
  { loram := m.testBit 0, hiram := m.testBit 1, charen := m.testBit 2, game := m.testBit 3, exrom := m.testBit 4 }

/-- The row that R66 prints for a mode: the regions of its seven page ranges. -/
def modeRow : Nat → List Region
  | 31 => [.ram, .ram, .ram, .basicRom, .ram, .ioDevices, .kernalRom]
  | 30 => [.ram, .ram, .ram, .ram, .ram, .ioDevices, .kernalRom]
  | 29 => [.ram, .ram, .ram, .ram, .ram, .ioDevices, .ram]
  | 28 => [.ram, .ram, .ram, .ram, .ram, .ram, .ram]
  | 27 => [.ram, .ram, .ram, .basicRom, .ram, .charsetRom, .kernalRom]
  | 26 => [.ram, .ram, .ram, .ram, .ram, .charsetRom, .kernalRom]
  | 25 => [.ram, .ram, .ram, .ram, .ram, .charsetRom, .ram]
  | 24 => [.ram, .ram, .ram, .ram, .ram, .ram, .ram]
  | 23 | 22 | 21 | 20 | 19 | 18 | 17 | 16 =>
    [.ram, .undefined, .cartRomLo, .undefined, .undefined, .ioDevices, .cartRomHi]
  | 15 => [.ram, .ram, .cartRomLo, .basicRom, .ram, .ioDevices, .kernalRom]
  | 14 => [.ram, .ram, .ram, .ram, .ram, .ioDevices, .kernalRom]
  | 13 => [.ram, .ram, .ram, .ram, .ram, .ioDevices, .ram]
  | 12 => [.ram, .ram, .ram, .ram, .ram, .ram, .ram]
  | 11 => [.ram, .ram, .cartRomLo, .basicRom, .ram, .charsetRom, .kernalRom]
  | 10 => [.ram, .ram, .ram, .ram, .ram, .charsetRom, .kernalRom]
  | 9 => [.ram, .ram, .ram, .ram, .ram, .charsetRom, .ram]
  | 8 => [.ram, .ram, .ram, .ram, .ram, .ram, .ram]
  | 7 => [.ram, .ram, .cartRomLo, .cartRomHi, .ram, .ioDevices, .kernalRom]
  | 6 => [.ram, .ram, .ram, .cartRomHi, .ram, .ioDevices, .kernalRom]
  | 5 => [.ram, .ram, .ram, .ram, .ram, .ioDevices, .ram]
  | 4 => [.ram, .ram, .ram, .ram, .ram, .ram, .ram]
  | 3 => [.ram, .ram, .cartRomLo, .cartRomHi, .ram, .charsetRom, .kernalRom]
  | 2 => [.ram, .ram, .ram, .cartRomHi, .ram, .charsetRom, .kernalRom]
  | 1 | 0 => [.ram, .ram, .ram, .ram, .ram, .ram, .ram]
  | _ => []

/-- The page range a page lies in, as R64 numbers the rows of its table from the top. -/
def pageRange (page : Nat) : Nat :=
  if page ≤ 15 then 0 else if page ≤ 127 then 1 else if page ≤ 159 then 2 else if page ≤ 191 then 3
  else if page ≤ 207 then 4 else if page ≤ 223 then 5 else 6

/-- The mnemonics that only read their operand (R156, condition 2). -/
def pageReaders : List Mnemonic := [.lda, .ldx, .ldy, .adc, .sbc, .cmp, .and, .ora, .eor, .lax, .las, .nop]

/-- Both nibbles are decimal digits. -/
def BcdByte (v : Byte) : Prop := v.toNat / 16 ≤ 9 ∧ v.toNat % 16 ≤ 9

/-- The two-digit decimal number a byte spells. -/
def bcdValue (v : Byte) : Nat := v.toNat / 16 * 10 + v.toNat % 16

/-- An instruction that shifts or rotates: `new old carry` is the new operand, bit `out` of the old one goes to C. In
accumulator mode A is the operand; else the byte at EA is (R230 to R233). -/
def Shifts (m : Mnemonic) (new : Byte → Bool → Byte) (out : Nat) : Prop :=
  ∀ (i : Instr) (s : State), i.mnemonic = m →
    (i.operand = .acc → ∃ t, exec i s = .next t ∧ t.a = new s.a (getFlag .c s.p) ∧ NZOf t.a t.p ∧
      getFlag .c t.p = s.a.getLsbD out ∧ ImpliedEffect i [.a] [.n, .z, .c] s t) ∧
    (i.operand ≠ .acc → ∃ t, exec i s = .next t ∧ NZOf (new (operandOf i s) (getFlag .c s.p)) t.p ∧
      getFlag .c t.p = (operandOf i s).getLsbD out ∧
      ModifyEffect i (new (operandOf i s) (getFlag .c s.p)) [] [.n, .z, .c] s t)

/-- A conditional branch that is taken when flag `f` is `b`: one cycle more when taken, two across a page (R255). -/
def BranchesOn (br : Byte → Instr) (f : Flag) (b : Bool) : Prop :=
  ∀ (off : Byte) (s : State),
    (getFlag f s.p ≠ b → ∃ t, exec (br off) s = .next t ∧ TransferEffect (br off) (s.pc + 2) 0 [] [] [] s t) ∧
    (getFlag f s.p = b → ∃ t, exec (br off) s = .next t ∧
      (t.pc.toNat : Int) = ((s.pc.toNat : Int) + 2 + off.toInt) % 65536 ∧
      TransferEffect (br off) t.pc (if (hi t.pc).toNat = (s.pc.toNat + 2) % 65536 / 256 then 1 else 2) [] [] [] s t)

/-- An unstable store: where it writes and what, from `mask`, with free values (logs 6, 7). -/
def StoresUnstable (m : Mnemonic) (mask : State → Byte) (regs : List Reg) : Prop :=
  ∀ (i : Instr) (s : State), i.mnemonic = m → ∃ t, exec i s = .next t ∧ Encoded i ∧ Kept regs [] s t ∧
    t.draws = s.draws + 1 ∧ Retired i (crosses i s) s t ∧ i.row.penalty = false ∧
    (crosses i s = false → Stored (addressOf i s)
      (mask s &&& Config.unstableHigh s.draws (hi (resolve i.operand s).base + 1)) (resolvedState i s) t) ∧
    (crosses i s = true → Stored (word (Config.crossedHigh s.draws) (lo (addressOf i s)))
      (Config.crossedValue s.draws) (resolvedState i s) t)

/-- What an interrupt entry does (R337, R338, R342): the frame is stacked, `flags` are set, PC is the word at the vector, 7 cycles
are counted; every other element of state is as it was. -/
structure Enters (vector : Word) (copy : Byte) (flags : List Flag) (s t : State) : Prop where
  stacked : Stacked [(stackAddr s.sp, hi s.pc), (stackAddr (s.sp - 1), lo s.pc), (stackAddr (s.sp - 2), copy)] s t
  sp : t.sp = s.sp - 3
  set : ∀ f, f ∈ flags → getFlag f t.p = true
  pc : t.pc = word (peek s (vector + 1)) (peek s vector)
  kept : Kept [.s] flags s t
  cycles : t.cycles = s.cycles + 7
  report : t.report = s.report
  draws : t.draws = s.draws

end Sys2Proof.Machine

open Sys2Proof Sys2Proof.Machine

/-! ### Encoding and the step -/

/-- Decoding an encoded instruction gives it back, with every operand at every value, and leaves the bytes after it (R112 to
R115). -/
def Obligations.DecodeOfEncode : Prop :=
  ∀ (i : Instr) (rest : List Byte), decode (encode i ++ rest) = .ok (i, rest)

/-- What decodes was encoded: the decoder drops no bit, takes as many bytes as the mode's format has, and what it took is
well-formed code. -/
def Obligations.EncodeOfDecode : Prop :=
  ∀ (bs rest : List Byte) (i : Instr), decode bs = .ok (i, rest) →
    bs = encode i ++ rest ∧ (encode i).length = i.size ∧ wellFormedCode (encode i) = true

/-- Every one of the 256 opcode bytes decodes, to an instruction with that opcode and with an encoding its rule lists (R114,
R119); code that is too short or empty is refused by name. The map is the spec's choice D1. -/
def Obligations.EveryOpcodeDecodes : Prop :=
  (∀ (op b1 b2 : Byte) (rest : List Byte), ∃ i, i.opcode = op ∧ Encoded i ∧
    decode (op :: b1 :: b2 :: rest) = .ok (i, (op :: b1 :: b2 :: rest).drop i.size)) ∧
  decode [] = .error .empty ∧
  ∀ bs : List Byte, codeFlaw bs = some .tooShort → decode bs = .error .truncated

/-- One word of every family, as the rules' Example lines print it. -/
def Obligations.SampleWordsDecode : Prop :=
  decode [0xA9, 0x80] = .ok (.ldaImm 0x80, []) ∧
  decode [0x8D, 0x00, 0x02] = .ok (.staAbs 0x0200, []) ∧
  decode [0x9A] = .ok (.txs, []) ∧
  decode [0x48] = .ok (.pha, []) ∧
  decode [0x69, 0x01] = .ok (.adcImm 0x01, []) ∧
  decode [0x24, 0x10] = .ok (.bitZp 0x10, []) ∧
  decode [0x0A] = .ok (.aslAcc, []) ∧
  decode [0x6C, 0xFF, 0x12] = .ok (.jmpInd 0x12FF, []) ∧
  decode [0xF0, 0x05] = .ok (.beq 0x05, []) ∧
  decode [0x78] = .ok (.sei, []) ∧
  decode [0xBF, 0xFF, 0x12] = .ok (.laxAby 0x12FF, []) ∧
  decode [0xEB, 0x01] = .ok (.sbcImmEB 0x01, []) ∧
  decode [0x02] = .ok (.jam02, [])

/-- A plain step runs the instruction that the bytes at PC decode to, in the state after those bytes were read through the bus;
where the device port answers none of the reads, that is the state itself. -/
def Obligations.StepRunsDecodedInstruction : Prop :=
  ∀ (s : State) (i : Instr), Running s → decode (readBytes i.size s.pc s).1 = .ok (i, []) →
    step s = exec i (readBytes i.size s.pc s).2 ∧
    ((∀ k, k < i.size → selectsPort s (s.pc + BitVec.ofNat 16 k) = false) → step s = exec i s)

/-- No instruction and no transition faults or is refused: what R332 lists raises nothing, and Halt is a next state. -/
def Obligations.EverythingCompletes : Prop :=
  (∀ (i : Instr) (s : State), ∃ t, exec i s = .next t) ∧ ∀ s : State, ∃ t, step s = .next t

/-! ### Invariants and rules over all instructions -/

/-- Every transition keeps the canonical memories and cycle table, and P.U = 1 (R26). -/
def Obligations.StepKeepsInvariant : Prop := ∀ s t : State, Inv s → step s = .next t → Inv t

/-- The state after reset meets the invariant. -/
def Obligations.ResetMeetsInvariant : Prop := Inv State.reset

/-- What reset leaves (R44): A, X, Y and S from the document, P.U too; the other flags (D4), the latch (D5), halted (D19), CYCLES
(D21), free RAM (D6) are the spec's choices, and so are the parameters' defaults: RESET_P $24 (D4), the base counts of R116 (D16). -/
def Obligations.ResetState : Prop :=
  State.reset.a = 0x00 ∧ State.reset.x = 0x00 ∧ State.reset.y = 0x00 ∧ State.reset.sp = 0xFD ∧
  (∀ f, getFlag f State.reset.p = decide (f = .i ∨ f = .u)) ∧
  State.reset.pc = word (peek State.reset 0xFFFD) (peek State.reset 0xFFFC) ∧
  State.reset.latch = ⟨true, true, true, true, true⟩ ∧
  (∀ a, ramByte State.reset a = Config.ramInit 0 a) ∧
  State.reset.halted = false ∧ State.reset.cycles = 0 ∧
  State.reset.setup.resetP = .irqDisabled ∧ ∀ i, baseCycles State.reset.setup i = i.row.cycles

/-- The ROM images, the device port's presence, RESET_P and CYCLE_TABLE never change: they are configuration (R7, R42). -/
def Obligations.SetupNeverChanges : Prop := ∀ s t : State, step s = .next t → t.setup = s.setup

/-- A program changes LORAM, HIRAM and CHAREN only by writing the control byte at $0001, and cannot change GAME or EXROM (R31,
R32, R33, R71). That the byte written at $0001 is also RAM's byte there is the spec's choice D10, log 19. -/
def Obligations.LatchFollowsControlByte : Prop :=
  (∀ (s : State) (v : Byte), (busWrite s 0x0001 v).latch =
    { loram := v.getLsbD 0, hiram := v.getLsbD 1, charen := v.getLsbD 2, game := s.latch.game, exrom := s.latch.exrom }) ∧
  (∀ (i : Instr) (s t : State), exec i s = .next t →
    t.latch = s.latch ∨ t.latch = setLatch s.latch (ramByte t 0x0001)) ∧
  ∀ (i : Instr) (s t : State), exec i s = .next t → t.latch.game = s.latch.game ∧ t.latch.exrom = s.latch.exrom

/-- Only JAM sets the halted flag; only reset clears it; while it is set a step request reports -1 and changes nothing else, and
interrupt requests do nothing (R331). That the flag is sticky is the spec's choice D19. -/
def Obligations.HaltedFlag : Prop :=
  (∀ (i : Instr) (s t : State), exec i s = .next t → t.halted = (s.halted || i.mnemonic == .jam)) ∧
  (∀ s t : State, s.halted = true → step s = .next t →
    t.halted = true ∨ (∃ rest, s.env = .reset :: rest) ∨ ∃ n i rest, s.env = .together true n i :: rest) ∧
  (∀ s : State, s.halted = true → s.env = [] → step s = .next { s with report := .halt }) ∧
  (∀ (s : State) (hold : Bool) (rest : List Turn), s.halted = true → s.env = .instr hold :: rest →
    step s = .next { s with env := rest, report := .halt }) ∧
  ∀ s : State, s.halted = true → irqRequest s = s ∧ nmiRequest s = s

/-- An instruction that changes a flag or a byte register is one of those the spec lists as its writers (R21, R22, R23, R27). -/
def Obligations.WritersOfFlagsAndRegisters : Prop :=
  ∀ (i : Instr) (s t : State), exec i s = .next t →
    (∀ f, getFlag f t.p ≠ getFlag f s.p → i.mnemonic ∈ flagWriters f) ∧
    ∀ r, t.reg r ≠ s.reg r → i.mnemonic ∈ regWriters r

/-! ### The bank decoder and the arbiter -/

/-- The classification depends on the latch and the page alone, and each page range has only the regions R64 lists for it. -/
def Obligations.ClassifyByPage : Prop :=
  (∀ (l : Latch) (a b : Word), a.toNat / 256 = b.toNat / 256 → classify l a = classify l b) ∧
  ∀ (l : Latch) (a : Word), let page := a.toNat / 256
    (page ≤ 15 → classify l a = .ram) ∧
    (16 ≤ page → page ≤ 127 → classify l a ∈ [Region.ram, .undefined]) ∧
    (128 ≤ page → page ≤ 159 → classify l a ∈ [Region.ram, .cartRomLo]) ∧
    (160 ≤ page → page ≤ 191 → classify l a ∈ [Region.ram, .basicRom, .cartRomHi, .undefined]) ∧
    (192 ≤ page → page ≤ 207 → classify l a ∈ [Region.ram, .undefined]) ∧
    (208 ≤ page → page ≤ 223 → classify l a ∈ [Region.ram, .ioDevices, .charsetRom]) ∧
    (224 ≤ page → classify l a ∈ [Region.ram, .kernalRom, .cartRomHi])

/-- The classification is R66's table, row by row; every latch is the latch of one of its modes. -/
def Obligations.ClassifyIsTheModeTable : Prop :=
  (∀ (m : Nat) (a : Word), m < 32 →
    (modeRow m)[pageRange (a.toNat / 256)]? = some (classify (latchOfMode m) a)) ∧
  ∀ l : Latch, ∃ m, m < 32 ∧ l = latchOfMode m

/-- A read by region (R70, R72). Tying the device port to IO_DEVICES is the spec's choice D11, RAM for the cartridge and undefined
regions is D12, the answer as a function of the accesses seen is log 4. -/
def Obligations.ReadByRegion : Prop :=
  ∀ (s : State) (a : Word),
    (classify s.latch a = .basicRom → peek s a = basicByte s.setup (a.toNat - 0xA000) ∧ afterRead s a = s) ∧
    (classify s.latch a = .kernalRom → peek s a = kernalByte s.setup (a.toNat - 0xE000) ∧ afterRead s a = s) ∧
    (classify s.latch a = .charsetRom → peek s a = charByte s.setup (a.toNat - 0xD000) ∧ afterRead s a = s) ∧
    (classify s.latch a = .ioDevices → s.setup.devicePort = true →
      peek s a = Config.deviceAnswer s.portLog a ∧
      afterRead s a = { s with portLog := s.portLog ++ [.read a (peek s a)] }) ∧
    (classify s.latch a = .ioDevices → s.setup.devicePort = false → peek s a = ramByte s a ∧ afterRead s a = s) ∧
    (classify s.latch a ∈ [Region.ram, .cartRomLo, .cartRomHi, .undefined] → peek s a = ramByte s a ∧ afterRead s a = s)

/-- A write through the bus (R71): the device port or RAM, and the latch at $0001; no register changes. D10 and D11 are the
spec's choices. -/
def Obligations.WriteThroughBus : Prop :=
  ∀ (s : State) (a : Word) (v : Byte),
    Stored a v s (busWrite s a v) ∧
    (selectsPort s a = true ↔ classify s.latch a = .ioDevices ∧ s.setup.devicePort = true) ∧
    ∃ r l g, busWrite s a v = { s with ram := r, latch := l, portLog := g }

/-- A write never changes a ROM image; under a ROM, cartridge or undefined region it changes the RAM underneath, which a read
returns once the latch selects RAM there; with a ROM still selected the read is as before (R73). What a cartridge or undefined region reads is D12 and not said here. -/
def Obligations.RomIsNeverWritten : Prop :=
  ∀ (s : State) (a : Word) (v : Byte),
    (busWrite s a v).setup = s.setup ∧
    (classify s.latch a ∈ [Region.basicRom, .kernalRom, .charsetRom, .cartRomLo, .cartRomHi, .undefined] →
      ramByte (busWrite s a v) a = v ∧
      ∀ l : Latch,
        (classify l a = .ram → peek { busWrite s a v with latch := l } a = v) ∧
        (classify l a ∈ [Region.basicRom, .kernalRom, .charsetRom] →
          peek { busWrite s a v with latch := l } a = peek { s with latch := l } a))

/-! ### The stack -/

/-- Push and pull of a byte: page 1 whatever S holds, written before S is decremented, read after it is incremented, both mod 256
(R28, R29). The direction is the spec's choice D24. -/
def Obligations.PushAndPullByte : Prop :=
  (∀ (s : State) (v : Byte),
    Stacked [(0x0100#16 + zext16 s.sp, v)] s (push s v) ∧
    (push s v).sp.toNat = (s.sp.toNat + 255) % 256 ∧
    ∃ m, push s v = { s with ram := m, sp := (push s v).sp }) ∧
  ∀ s : State,
    pulled s = ramByte s (0x0100#16 + zext16 (s.sp + 1)) ∧
    (afterPull s).sp.toNat = (s.sp.toNat + 1) % 256 ∧
    afterPull s = { s with sp := (afterPull s).sp }

/-- A word is pushed high byte first and pulled low byte first, so that pulling gives back what was pushed (R30; the pull order
is the spec's inference "the reverse of the push order"). -/
def Obligations.PushAndPullWord : Prop :=
  ∀ (s : State) (w : Word),
    Stacked [(stackAddr s.sp, hi w), (stackAddr (s.sp - 1), lo w)] s (pushWord s w) ∧
    pulledWord s = word (ramByte s (stackAddr (s.sp + 2))) (ramByte s (stackAddr (s.sp + 1))) ∧
    pulledWord (pushWord s w) = w ∧ (afterPullWord (pushWord s w)).sp = s.sp

/-! ### The operand resolver -/

/-- The zero-page modes address page zero, the index wrapping within it, and read nothing (R144, R145, R146). -/
def Obligations.ZeroPageModes : Prop :=
  (∀ (z : Byte) (s : State), resolve (.zp z) s = .direct .mem (BitVec.ofNat 16 z.toNat) s) ∧
  (∀ (z : Byte) (s : State),
    resolve (.zpx z) s = .direct .mem (BitVec.ofNat 16 ((z.toNat + s.x.toNat) % 256)) s) ∧
  (∀ (z : Byte) (s : State),
    resolve (.zpy z) s = .direct .mem (BitVec.ofNat 16 ((z.toNat + s.y.toNat) % 256)) s) ∧
  ∀ (i : Instr) (z : Byte), i.operand = .zpy z → i.mnemonic ∈ [Mnemonic.ldx, .stx, .lax, .sax]

/-- The absolute modes, indexed and not: base + index mod 65536, crossed exactly when the index carries out of the low byte (R147,
R148, R149; the wrap at $FFFF is the spec's inference "from the 16-bit address width"); the modes without an address (R141,
R142, R150); the immediate mode, whose operand byte is the instruction's own and is read by the fetch alone (R143; log 11); and
in every other mode the operand byte M is one bus read of EA in the state after the pointer reads (R157). -/
def Obligations.AbsoluteIndexedModes : Prop :=
  (∀ (base : Word) (s : State),
    resolve (.abs base) s = .direct .mem base s ∧
    ((resolve (.abx base) s).kind = .mem ∧
      (resolve (.abx base) s).ea.toNat = (base.toNat + s.x.toNat) % 65536 ∧
      ((resolve (.abx base) s).crossed = true ↔ 256 ≤ base.toNat % 256 + s.x.toNat) ∧
      (resolve (.abx base) s).state = s) ∧
    (resolve (.aby base) s).kind = .mem ∧
      (resolve (.aby base) s).ea.toNat = (base.toNat + s.y.toNat) % 65536 ∧
      ((resolve (.aby base) s).crossed = true ↔ 256 ≤ base.toNat % 256 + s.y.toNat) ∧
      (resolve (.aby base) s).state = s) ∧
  (∀ (v : Byte) (s : State),
    resolve (.imm v) s = .direct .mem (BitVec.ofNat 16 (s.pc.toNat + 1)) s ∧
    resolve (.rel v) s = .direct .rel (BitVec.ofNat 16 v.toNat) s ∧
    ((resolve .imp s).kind = .none ∧ (resolve .imp s).crossed = false ∧ (resolve .imp s).state = s) ∧
    (resolve .acc s).kind = .acc ∧ (resolve .acc s).crossed = false ∧ (resolve .acc s).state = s) ∧
  ∀ i : Instr,
    (i.operand = .acc → i.mnemonic ∈ [Mnemonic.asl, .lsr, .rol, .ror]) ∧
    (∀ v, i.operand = .rel v → i.mnemonic ∈ [Mnemonic.bpl, .bmi, .bvc, .bvs, .bcc, .bcs, .bne, .beq]) ∧
    ∀ s : State,
      (∀ v, i.operand = .imm v → operandOf i s = v ∧ readState i s = s) ∧
      ((∀ v, i.operand ≠ .imm v) →
        operandOf i s = peek (resolvedState i s) (addressOf i s) ∧
        readState i s = afterRead (resolvedState i s) (addressOf i s))

/-- The pointer modes: the low byte of the pointer is read, then the high byte from the same page, the address of the high byte
being that of the low byte with only its low byte incremented; X is added before, Y after (R152, R153, R155). -/
def Obligations.PointerModes : Prop :=
  (∀ (ptr : Word) (s : State),
    let next := BitVec.ofNat 16 (ptr.toNat / 256 * 256 + (ptr.toNat + 1) % 256)
    resolve (.ind ptr) s =
      .direct .mem (word (peek (afterRead s ptr) next) (peek s ptr)) (afterRead (afterRead s ptr) next)) ∧
  (∀ (z : Byte) (s : State),
    let at0 := BitVec.ofNat 16 ((z.toNat + s.x.toNat) % 256)
    let at1 := BitVec.ofNat 16 ((z.toNat + s.x.toNat + 1) % 256)
    resolve (.izx z) s =
      .direct .mem (word (peek (afterRead s at0) at1) (peek s at0)) (afterRead (afterRead s at0) at1)) ∧
  ∀ (z : Byte) (s : State),
    let at0 := BitVec.ofNat 16 z.toNat
    let at1 := BitVec.ofNat 16 ((z.toNat + 1) % 256)
    let base := word (peek (afterRead s at0) at1) (peek s at0)
    (resolve (.izy z) s).kind = .mem ∧
    (resolve (.izy z) s).base = base ∧
    (resolve (.izy z) s).ea.toNat = (base.toNat + s.y.toNat) % 65536 ∧
    ((resolve (.izy z) s).crossed = true ↔ hi (resolve (.izy z) s).ea ≠ hi base) ∧
    (resolve (.izy z) s).state = afterRead (afterRead s at0) at1

/-- The page-cross penalty (R156): one cycle when the index crossed a page, in the modes abx, aby and izy, for the instructions
that only read their operand, and for no other. The undocumented readers are the spec's choice D23, no penalty on stores and
read-modify-write D29. It is added to the opcode's base count: the one CYCLE_TABLE supplies (R7), else the count of R116 (D16). -/
def Obligations.PageCrossPenalty : Prop :=
  ∀ (i : Instr) (s : State),
    (∀ n, s.setup.cycleTable.lookup i.opcode = some n → baseCycles s.setup i = n) ∧
    (s.setup.cycleTable.lookup i.opcode = none → baseCycles s.setup i = i.row.cycles) ∧
    ∀ t, exec i s = .next t → tagOf i.operand ∈ [Tag.abx, .aby, .izy] →
      t.cycles = s.cycles + baseCycles s.setup i + (if crosses i s = true ∧ i.mnemonic ∈ pageReaders then 1 else 0) ∧
      (i.row.penalty = true ↔ i.mnemonic ∈ pageReaders)

/-! ### Arithmetic -/

/-- Binary addition and subtraction in integers: result, C, N, Z, and V as signed overflow (R200, R202). -/
def Obligations.BinaryArithmetic : Prop :=
  (∀ (a m : Byte) (c : Bool), let r := addBinary a m c; let sum := a.toNat + m.toNat + c.toNat
    r.result.toNat = sum % 256 ∧ r.c = decide (255 < sum) ∧
    r.n = r.result.getLsbD 7 ∧ r.z = decide (r.result = 0) ∧
    r.v = (((~~~ (a ^^^ m)) &&& (a ^^^ r.result) &&& 0x80) != 0) ∧
    (r.v = true ↔ a.toInt + m.toInt + c.toNat < -128 ∨ 127 < a.toInt + m.toInt + c.toNat)) ∧
  ∀ (a m : Byte) (c : Bool), let r := subBinary a m c; let borrow := 1 - c.toNat
    r = addBinary a (m ^^^ 0xFF) c ∧
    (r.result.toNat : Int) = ((a.toNat : Int) - m.toNat - borrow) % 256 ∧
    r.c = decide (m.toNat + borrow ≤ a.toNat) ∧
    r.n = r.result.getLsbD 7 ∧ r.z = decide (r.result = 0) ∧
    r.v = (((a ^^^ m) &&& (a ^^^ r.result) &&& 0x80) != 0) ∧
    (r.v = true ↔ a.toInt - m.toInt - borrow < -128 ∨ 127 < a.toInt - m.toInt - borrow)

/-- Decimal addition and subtraction (R201, R203), digit by digit, for every byte, digits above 9 too: the units digit corrected
by 6 and carried or borrowed, then the tens digit, read unsigned and signed. `tens` is before its own correction: N and V of an
addition come from it, Z from the binary sum; all four flags of a subtraction are those of the binary one. On valid BCD bytes
result and C are the two-digit decimal sum or difference with its carry or not-borrow. The flags are the spec's choice D7,
digits above 9 its U11; log 15. -/
def Obligations.DecimalArithmetic : Prop :=
  (∀ (a m : Byte) (c : Bool), let r := addDecimal a m c
    let units := a.toNat % 16 + m.toNat % 16 + c.toNat
    let carry := (decide (10 ≤ units)).toNat
    let low := if 10 ≤ units then (units + 6) % 16 else units
    let tens := a.toNat / 16 + m.toNat / 16 + carry
    let signedTens := a.toInt / 16 + m.toInt / 16 + carry
    r.result.toNat = (if 10 ≤ tens then tens + 6 else tens) % 16 * 16 + low ∧
    r.c = decide (10 ≤ tens) ∧
    r.n = decide (8 ≤ tens % 16) ∧
    (r.v = true ↔ signedTens < -8 ∨ 7 < signedTens) ∧
    r.z = decide ((a.toNat + m.toNat + c.toNat) % 256 = 0) ∧
    (BcdByte a → BcdByte m → let sum := bcdValue a + bcdValue m + c.toNat
      BcdByte r.result ∧ bcdValue r.result = sum % 100 ∧ r.c = decide (100 ≤ sum))) ∧
  ∀ (a m : Byte) (c : Bool), let r := subDecimal a m c
    let borrow := 1 - c.toNat
    let units := (a.toNat % 16 : Int) - (m.toNat % 16 : Int) - borrow
    let low := if units < 0 then (units - 6) % 16 else units
    let tens := (a.toNat / 16 : Int) - (m.toNat / 16 : Int) - (decide (units < 0)).toNat
    (r.result.toNat : Int) = (if tens < 0 then tens - 6 else tens) % 16 * 16 + low ∧
    r.n = (subBinary a m c).n ∧ r.v = (subBinary a m c).v ∧ r.z = (subBinary a m c).z ∧ r.c = (subBinary a m c).c ∧
    (BcdByte a → BcdByte m →
      BcdByte r.result ∧ (bcdValue r.result : Int) = ((bcdValue a : Int) - bcdValue m - borrow) % 100 ∧
      r.c = decide (bcdValue m + borrow ≤ bcdValue a))

/-- A compare sets C on unsigned not-less, Z on equality and N from bit 7 of the difference; it looks at no flag and writes no
other (R204). -/
def Obligations.CompareLaw : Prop :=
  ∀ r m p : Byte,
    getFlag .c (putCompare r m p) = decide (m.toNat ≤ r.toNat) ∧
    getFlag .z (putCompare r m p) = decide (r = m) ∧
    getFlag .n (putCompare r m p) = (BitVec.ofNat 8 (r.toNat + 256 - m.toNat)).getLsbD 7 ∧
    ∀ f, f ∉ [Flag.c, .z, .n] → getFlag f (putCompare r m p) = getFlag f p

/-! ### The instructions -/

/-- LDA, LDX, LDY: the register is M, N and Z are M's (R170, R171, R172). -/
def Obligations.Loads : Prop :=
  ∀ (i : Instr) (s : State),
    (i.mnemonic = .lda → ∃ t, exec i s = .next t ∧ t.a = operandOf i s ∧ NZOf t.a t.p ∧ ReadEffect i [.a] [.n, .z] s t) ∧
    (i.mnemonic = .ldx → ∃ t, exec i s = .next t ∧ t.x = operandOf i s ∧ NZOf t.x t.p ∧ ReadEffect i [.x] [.n, .z] s t) ∧
    (i.mnemonic = .ldy → ∃ t, exec i s = .next t ∧ t.y = operandOf i s ∧ NZOf t.y t.p ∧ ReadEffect i [.y] [.n, .z] s t)

/-- STA, STX, STY: the register is written at EA, no flag changes (R173, R174, R175). -/
def Obligations.Stores : Prop :=
  ∀ (i : Instr) (s : State),
    (i.mnemonic = .sta → ∃ t, exec i s = .next t ∧ WriteEffect i s.a s t) ∧
    (i.mnemonic = .stx → ∃ t, exec i s = .next t ∧ WriteEffect i s.x s t) ∧
    (i.mnemonic = .sty → ∃ t, exec i s = .next t ∧ WriteEffect i s.y s t)

/-- The transfers; TXS alone writes no flag (R176 to R181). -/
def Obligations.Transfers : Prop :=
  ∀ s : State,
    (∃ t, exec .tax s = .next t ∧ t.x = s.a ∧ NZOf s.a t.p ∧ ImpliedEffect .tax [.x] [.n, .z] s t) ∧
    (∃ t, exec .tay s = .next t ∧ t.y = s.a ∧ NZOf s.a t.p ∧ ImpliedEffect .tay [.y] [.n, .z] s t) ∧
    (∃ t, exec .txa s = .next t ∧ t.a = s.x ∧ NZOf s.x t.p ∧ ImpliedEffect .txa [.a] [.n, .z] s t) ∧
    (∃ t, exec .tya s = .next t ∧ t.a = s.y ∧ NZOf s.y t.p ∧ ImpliedEffect .tya [.a] [.n, .z] s t) ∧
    (∃ t, exec .tsx s = .next t ∧ t.x = s.sp ∧ NZOf s.sp t.p ∧ ImpliedEffect .tsx [.x] [.n, .z] s t) ∧
    (∃ t, exec .txs s = .next t ∧ t.sp = s.x ∧ ImpliedEffect .txs [.s] [] s t)

/-- PHA stacks A; PLA pulls A and sets N and Z; PLP pulls all of P and forces bit 5 (R190, R192, R193). -/
def Obligations.PhaPlaPlp : Prop :=
  ∀ s : State,
    (∃ t, exec .pha s = .next t ∧ t.sp = s.sp - 1 ∧ StackEffect .pha [(stackAddr s.sp, s.a)] [.s] [] s t) ∧
    (∃ t, exec .pla s = .next t ∧ t.sp = s.sp + 1 ∧ t.a = ramByte s (stackAddr (s.sp + 1)) ∧ NZOf t.a t.p ∧
      StackEffect .pla [] [.a, .s] [.n, .z] s t) ∧
    ∃ t, exec .plp s = .next t ∧ t.sp = s.sp + 1 ∧ t.p = ramByte s (stackAddr (s.sp + 1)) ||| 0x20 ∧
      StackEffect .plp [] [.s] allFlags s t

/-- PHP stacks P with bits 4 and 5 set and leaves P; a PLP right after it gives P that byte (R191, R193). What PHP pushes is the
spec's choice D8. -/
def Obligations.PhpThenPlp : Prop :=
  ∀ s : State, ∃ t, exec .php s = .next t ∧ t.sp = s.sp - 1 ∧ t.p = s.p ∧
    StackEffect .php [(stackAddr s.sp, s.p ||| 0x30)] [.s] [] s t ∧
    ∃ u, exec .plp t = .next u ∧ u.p = s.p ||| 0x30 ∧ u.sp = s.sp

/-- ADC and SBC ($EB among its opcodes): A, N, V, Z, C of the addition or subtraction that P.D selects (R205, R206, R303). The
decimal N, V, Z are the spec's choice D7. -/
def Obligations.AdcAndSbc : Prop :=
  ∀ (i : Instr) (s : State),
    (i.mnemonic = .adc → ∃ t, exec i s = .next t ∧
      (let r := if getFlag .d s.p = true then addDecimal s.a (operandOf i s) (getFlag .c s.p)
        else addBinary s.a (operandOf i s) (getFlag .c s.p)
      t.a = r.result ∧ AluFlags r t.p) ∧ ReadEffect i [.a] [.n, .v, .z, .c] s t) ∧
    (i.mnemonic = .sbc → ∃ t, exec i s = .next t ∧
      (let r := if getFlag .d s.p = true then subDecimal s.a (operandOf i s) (getFlag .c s.p)
        else subBinary s.a (operandOf i s) (getFlag .c s.p)
      t.a = r.result ∧ AluFlags r t.p) ∧ ReadEffect i [.a] [.n, .v, .z, .c] s t)

/-- CMP, CPX, CPY: the flags of the compare, no register, not V (R207, R208, R209). -/
def Obligations.Compares : Prop :=
  ∀ (i : Instr) (s : State),
    (i.mnemonic = .cmp → ∃ t, exec i s = .next t ∧ CompareFlags s.a (operandOf i s) t.p ∧
      ReadEffect i [] [.n, .z, .c] s t) ∧
    (i.mnemonic = .cpx → ∃ t, exec i s = .next t ∧ CompareFlags s.x (operandOf i s) t.p ∧
      ReadEffect i [] [.n, .z, .c] s t) ∧
    (i.mnemonic = .cpy → ∃ t, exec i s = .next t ∧ CompareFlags s.y (operandOf i s) t.p ∧
      ReadEffect i [] [.n, .z, .c] s t)

/-- AND, ORA, EOR write A with N and Z; BIT writes Z from the and, N and V from M's bits 7 and 6 (R220 to R223). -/
def Obligations.LogicAndBit : Prop :=
  ∀ (i : Instr) (s : State),
    (i.mnemonic = .and → ∃ t, exec i s = .next t ∧ t.a = s.a &&& operandOf i s ∧ NZOf t.a t.p ∧
      ReadEffect i [.a] [.n, .z] s t) ∧
    (i.mnemonic = .ora → ∃ t, exec i s = .next t ∧ t.a = s.a ||| operandOf i s ∧ NZOf t.a t.p ∧
      ReadEffect i [.a] [.n, .z] s t) ∧
    (i.mnemonic = .eor → ∃ t, exec i s = .next t ∧ t.a = s.a ^^^ operandOf i s ∧ NZOf t.a t.p ∧
      ReadEffect i [.a] [.n, .z] s t) ∧
    (i.mnemonic = .bit → ∃ t, exec i s = .next t ∧ getFlag .z t.p = (s.a &&& operandOf i s == 0) ∧
      getFlag .n t.p = (operandOf i s).getLsbD 7 ∧ getFlag .v t.p = (operandOf i s).getLsbD 6 ∧
      ReadEffect i [] [.n, .v, .z] s t)

/-- ASL, LSR, ROL, ROR on A and on memory: the new operand, the bit shifted out in C, N and Z of the result (R230 to R233). -/
def Obligations.ShiftsAndRotates : Prop :=
  Shifts .asl (fun v _ => BitVec.ofNat 8 (v.toNat * 2)) 7 ∧
  Shifts .lsr (fun v _ => BitVec.ofNat 8 (v.toNat / 2)) 0 ∧
  Shifts .rol (fun v c => BitVec.ofNat 8 (v.toNat * 2 + c.toNat)) 7 ∧
  Shifts .ror (fun v c => BitVec.ofNat 8 (v.toNat / 2 + 128 * c.toNat)) 0

/-- INC and DEC on memory, INX, INY, DEX, DEY: one more or less mod 256, N and Z, not C nor V (R234 to R239). -/
def Obligations.IncrementsAndDecrements : Prop :=
  (∀ (i : Instr) (s : State),
    (i.mnemonic = .inc → ∃ t, exec i s = .next t ∧ NZOf (operandOf i s + 1) t.p ∧
      ModifyEffect i (operandOf i s + 1) [] [.n, .z] s t) ∧
    (i.mnemonic = .dec → ∃ t, exec i s = .next t ∧ NZOf (operandOf i s - 1) t.p ∧
      ModifyEffect i (operandOf i s - 1) [] [.n, .z] s t)) ∧
  ∀ s : State,
    (∃ t, exec .inx s = .next t ∧ t.x = s.x + 1 ∧ NZOf t.x t.p ∧ ImpliedEffect .inx [.x] [.n, .z] s t) ∧
    (∃ t, exec .iny s = .next t ∧ t.y = s.y + 1 ∧ NZOf t.y t.p ∧ ImpliedEffect .iny [.y] [.n, .z] s t) ∧
    (∃ t, exec .dex s = .next t ∧ t.x = s.x - 1 ∧ NZOf t.x t.p ∧ ImpliedEffect .dex [.x] [.n, .z] s t) ∧
    (∃ t, exec .dey s = .next t ∧ t.y = s.y - 1 ∧ NZOf t.y t.p ∧ ImpliedEffect .dey [.y] [.n, .z] s t)

/-- JMP: PC is the operand, or the word at the pointer with both bytes from the pointer's page; nothing at the target is read
(R250, R151). -/
def Obligations.Jumps : Prop :=
  ∀ s : State,
    (∀ addr, ∃ t, exec (.jmpAbs addr) s = .next t ∧ TransferEffect (.jmpAbs addr) addr 0 [] [] [] s t) ∧
    (∀ ptr : Word, let next := BitVec.ofNat 16 (ptr.toNat / 256 * 256 + (ptr.toNat + 1) % 256)
      ∃ t, exec (.jmpInd ptr) s = .next t ∧
        TransferEffect (.jmpInd ptr) (word (peek (afterRead s ptr) next) (peek s ptr)) 0 [] [] [] s t ∧
        t.portLog = (afterRead (afterRead s ptr) next).portLog) ∧
    ∀ (i : Instr) (ptr : Word), i.operand = .ind ptr → i = .jmpInd ptr

/-- JSR stacks the address of its own last byte, high byte first, and jumps; RTS pulls a word and continues one past it (R251,
R252). -/
def Obligations.JsrAndRts : Prop :=
  ∀ s : State,
    (∀ addr, ∃ t, exec (.jsr addr) s = .next t ∧ t.sp = s.sp - 2 ∧
      TransferEffect (.jsr addr) addr 0 [(stackAddr s.sp, hi (s.pc + 2)), (stackAddr (s.sp - 1), lo (s.pc + 2))]
        [.s] [] s t) ∧
    ∃ t, exec .rts s = .next t ∧ t.sp = s.sp + 2 ∧
      TransferEffect .rts (word (ramByte s (stackAddr (s.sp + 2))) (ramByte s (stackAddr (s.sp + 1))) + 1) 0 [] [.s] [] s t

/-- A JSR and an RTS right after it come back to the instruction after the JSR, with S and every other register and flag as they
were. -/
def Obligations.JsrThenRtsReturns : Prop :=
  ∀ (addr : Word) (s : State), ∃ t u, exec (.jsr addr) s = .next t ∧ exec .rts t = .next u ∧
    u.pc = s.pc + 3 ∧ Kept [] [] s u

/-- RTI pulls P with bit 5 forced, then PC, with no increment (R253). -/
def Obligations.ReturnFromInterrupt : Prop :=
  ∀ s : State, ∃ t, exec .rti s = .next t ∧ t.sp = s.sp + 3 ∧
    t.p = ramByte s (stackAddr (s.sp + 1)) ||| 0x20 ∧
    TransferEffect .rti (word (ramByte s (stackAddr (s.sp + 3))) (ramByte s (stackAddr (s.sp + 2)))) 0 [] [.s] allFlags s t

/-- BRK: the frame with BRK + 2 and P with bits 4 and 5 set, P.B and P.I set, PC from the IRQ vector, masked by nothing (R254,
R333). The pushed copy and stored B are the spec's choice D8, the return address D30. -/
def Obligations.BreakTakesTheTrap : Prop :=
  ∀ s : State, ∃ t, exec .brk s = .next t ∧ t.sp = s.sp - 3 ∧ getFlag .b t.p = true ∧ getFlag .i t.p = true ∧
    TransferEffect .brk (word (peek s 0xFFFF) (peek s 0xFFFE)) 0
      [(stackAddr s.sp, hi (s.pc + 2)), (stackAddr (s.sp - 1), lo (s.pc + 2)), (stackAddr (s.sp - 2), s.p ||| 0x30)]
      [.s] [.b, .i] s t

/-- The eight conditional branches: target, not-taken case and cost (R255 to R263). The page that the target is compared with is
the spec's choice D15. -/
def Obligations.ConditionalBranches : Prop :=
  BranchesOn .bpl .n false ∧ BranchesOn .bmi .n true ∧ BranchesOn .bvc .v false ∧ BranchesOn .bvs .v true ∧
  BranchesOn .bcc .c false ∧ BranchesOn .bcs .c true ∧ BranchesOn .bne .z false ∧ BranchesOn .beq .z true

/-- The flag instructions write their one flag and nothing else; the documented NOP writes nothing (R280 to R287). -/
def Obligations.FlagInstructionsAndNop : Prop :=
  (∀ e ∈ [(Instr.clc, Flag.c, false), (.sec, .c, true), (.cli, .i, false), (.sei, .i, true), (.cld, .d, false),
      (.sed, .d, true), (.clv, .v, false)],
    ∀ s : State, ∃ t, exec e.1 s = .next t ∧ getFlag e.2.1 t.p = e.2.2 ∧ ImpliedEffect e.1 [] [e.2.1] s t) ∧
  ∀ s : State, ∃ t, exec .nopImp s = .next t ∧ ImpliedEffect .nopImp [] [] s t

/-- Every NOP leaves every register and flag; one with a memory operand reads EA and discards the byte (R304). That the read is
made is the spec's choice D31. -/
def Obligations.UndocumentedNops : Prop :=
  ∀ (i : Instr) (s : State), i.mnemonic = .nop →
    (i.operand = .imp → ∃ t, exec i s = .next t ∧ ImpliedEffect i [] [] s t) ∧
    (i.operand ≠ .imp → ∃ t, exec i s = .next t ∧ ReadEffect i [] [] s t)

/-- SLO, RLA, SRE, DCP: one read and one write of EA, then the accumulator operation on the new byte (R291, R292, R293, R297). -/
def Obligations.SloRlaSreDcp : Prop :=
  ∀ (i : Instr) (s : State), let v := operandOf i s
    (i.mnemonic = .slo → ∃ t, exec i s = .next t ∧ t.a = s.a ||| (v <<< 1) ∧ NZOf t.a t.p ∧
      getFlag .c t.p = v.getLsbD 7 ∧ ModifyEffect i (v <<< 1) [.a] [.n, .z, .c] s t) ∧
    (i.mnemonic = .rla → ∃ t, exec i s = .next t ∧
      (let new := BitVec.ofNat 8 (v.toNat * 2 + (getFlag .c s.p).toNat)
      t.a = s.a &&& new ∧ ModifyEffect i new [.a] [.n, .z, .c] s t) ∧ NZOf t.a t.p ∧ getFlag .c t.p = v.getLsbD 7) ∧
    (i.mnemonic = .sre → ∃ t, exec i s = .next t ∧ t.a = s.a ^^^ (v >>> 1) ∧ NZOf t.a t.p ∧
      getFlag .c t.p = v.getLsbD 0 ∧ ModifyEffect i (v >>> 1) [.a] [.n, .z, .c] s t) ∧
    (i.mnemonic = .dcp → ∃ t, exec i s = .next t ∧ CompareFlags s.a (v - 1) t.p ∧
      ModifyEffect i (v - 1) [] [.n, .z, .c] s t)

/-- RRA: ROR, then ADC with the bit rotated out as carry; ISC: INC, then SBC (R294, R298). The decimal N, V, Z are the spec's
choice D7. -/
def Obligations.RraAndIsc : Prop :=
  ∀ (i : Instr) (s : State), let v := operandOf i s
    (i.mnemonic = .rra → ∃ t, exec i s = .next t ∧
      (let new := BitVec.ofNat 8 (v.toNat / 2 + 128 * (getFlag .c s.p).toNat)
      let r := if getFlag .d s.p = true then addDecimal s.a new (v.getLsbD 0) else addBinary s.a new (v.getLsbD 0)
      t.a = r.result ∧ AluFlags r t.p ∧ ModifyEffect i new [.a] [.n, .v, .z, .c] s t)) ∧
    (i.mnemonic = .isc → ∃ t, exec i s = .next t ∧
      (let r := if getFlag .d s.p = true then subDecimal s.a (v + 1) (getFlag .c s.p)
        else subBinary s.a (v + 1) (getFlag .c s.p)
      t.a = r.result ∧ AluFlags r t.p ∧ ModifyEffect i (v + 1) [.a] [.n, .v, .z, .c] s t))

/-- SAX stores A AND X; LAX loads A and X; LAS loads A, X and S with M AND S (R295, R296, R305). The page-cross
penalty of LAX and LAS is the spec's choice D23, log 17. -/
def Obligations.SaxLaxLas : Prop :=
  ∀ (i : Instr) (s : State),
    (i.mnemonic = .sax → ∃ t, exec i s = .next t ∧ WriteEffect i (s.a &&& s.x) s t) ∧
    (i.mnemonic = .lax → ∃ t, exec i s = .next t ∧ t.a = operandOf i s ∧ t.x = operandOf i s ∧
      NZOf (operandOf i s) t.p ∧ ReadEffect i [.a, .x] [.n, .z] s t) ∧
    (i.mnemonic = .las → ∃ t, exec i s = .next t ∧ t.a = operandOf i s &&& s.sp ∧ t.x = t.a ∧ t.sp = t.a ∧
      NZOf t.a t.p ∧ ReadEffect i [.a, .x, .s] [.n, .z] s t)

/-- ANC, ALR, ARR, SBX, the immediate combinations (R299, R300, R301, R302). ARR with P.D = 1 is the commonly tabulated behaviour
that R301 calls least certain and U6 lets a model refuse: DESIGN CHOICE, log 16. -/
def Obligations.AncAlrArrSbx : Prop :=
  ∀ (i : Instr) (s : State), let c := getFlag .c s.p; let masked := s.a &&& operandOf i s
    (i.mnemonic = .anc → ∃ t, exec i s = .next t ∧ t.a = masked ∧ NZOf masked t.p ∧
      getFlag .c t.p = masked.getLsbD 7 ∧ ReadEffect i [.a] [.n, .z, .c] s t) ∧
    (i.mnemonic = .alr → ∃ t, exec i s = .next t ∧ t.a = masked >>> 1 ∧ NZOf t.a t.p ∧
      getFlag .c t.p = masked.getLsbD 0 ∧ ReadEffect i [.a] [.n, .z, .c] s t) ∧
    (i.mnemonic = .arr → ∃ t, exec i s = .next t ∧ ReadEffect i [.a] [.n, .v, .z, .c] s t ∧
      (let r := BitVec.ofNat 8 (masked.toNat / 2 + 128 * c.toNat)
      (getFlag .d s.p = false → t.a = r ∧ NZOf r t.p ∧ getFlag .c t.p = r.getLsbD 6 ∧
        getFlag .v t.p = (r.getLsbD 6 ^^ r.getLsbD 5)) ∧
      (getFlag .d s.p = true → getFlag .n t.p = c ∧ getFlag .z t.p = (r == 0) ∧
        getFlag .v t.p = (masked.getLsbD 6 ^^ r.getLsbD 6) ∧
        (let low := masked.toNat % 16; let high := masked.toNat / 16 * 16
        let r1 := if 5 < low + low % 2 then r.toNat / 16 * 16 + (r.toNat + 6) % 16 else r.toNat
        getFlag .c t.p = decide (0x50 < high + (masked.toNat / 16 % 2) * 16) ∧
        t.a.toNat = if 0x50 < high + (masked.toNat / 16 % 2) * 16 then (r1 + 0x60) % 256 else r1)))) ∧
    (i.mnemonic = .sbx → ∃ t, exec i s = .next t ∧ t.x = (s.a &&& s.x) - operandOf i s ∧
      CompareFlags (s.a &&& s.x) (operandOf i s) t.p ∧ ReadEffect i [.x] [.n, .z, .c] s t)

/-- ANE and LXA run with a free magic byte (R306, R307 are informative; D3, log 5): the result, N and Z follow from it, and with
operand 0 the result is 0 whatever it is. -/
def Obligations.AneAndLxa : Prop :=
  ∀ (i : Instr) (s : State),
    (i.mnemonic = .ane → ∃ t, exec i s = .next t ∧
      t.a = (s.a ||| Config.aneMagic s.draws) &&& s.x &&& operandOf i s ∧ (operandOf i s = 0 → t.a = 0) ∧
      NZOf t.a t.p ∧ Encoded i ∧ Kept [.a] [.n, .z] s t ∧ MemoryKept s t ∧ t.portLog = s.portLog ∧
      t.draws = s.draws + 1 ∧ Retired i false s t) ∧
    (i.mnemonic = .lxa → ∃ t, exec i s = .next t ∧
      t.a = (s.a ||| Config.lxaMagic s.draws) &&& operandOf i s ∧ (operandOf i s = 0 → t.a = 0) ∧ t.x = t.a ∧
      NZOf t.a t.p ∧ Encoded i ∧ Kept [.a, .x] [.n, .z] s t ∧ MemoryKept s t ∧ t.portLog = s.portLog ∧
      t.draws = s.draws + 1 ∧ Retired i false s t)

/-- SHA, SHX, SHY, TAS run with free values (R308 to R311 are informative; D3, logs 6 and 7); TAS sets S to A AND X. -/
def Obligations.UnstableStores : Prop :=
  StoresUnstable .sha (fun s => s.a &&& s.x) [] ∧ StoresUnstable .shx (fun s => s.x) [] ∧
  StoresUnstable .shy (fun s => s.y) [] ∧ StoresUnstable .tas (fun s => s.a &&& s.x) [.s] ∧
  ∀ (i : Instr) (s t : State), i.mnemonic = .tas → exec i s = .next t → t.sp = s.a &&& s.x

/-- JAM halts: the flag is set, -1 is reported, nothing else changes; the step has read the opcode byte only, and a held step
halts too (R312, R331, R341). That these twelve opcodes are the ones is the spec's choice D2. -/
def Obligations.JamHalts : Prop :=
  (∀ (i : Instr) (s : State), i.mnemonic = .jam →
    Encoded i ∧ exec i s = .next { s with halted := true, report := .halt }) ∧
  ∀ (s : State) (hold : Bool) (rest : List Turn), s.halted = false → s.env = .instr hold :: rest →
    peek s s.pc ∈ [0x02#8, 0x12#8, 0x22#8, 0x32#8, 0x42#8, 0x52#8, 0x62#8, 0x72#8, 0x92#8, 0xB2#8, 0xD2#8, 0xF2#8] →
    step s = .next { afterRead s s.pc with env := rest, halted := true, report := .halt }

/-! ### Interrupts, reset, the hold, the host -/

/-- An IRQ request does nothing when P.I is set or the core is halted; else it stacks the boundary PC and P with bit 4 clear and
bit 5 set, sets P.I and loads PC from $FFFE (R337). No delay after CLI is D26, 7 cycles is D16. -/
def Obligations.IrqRequest : Prop :=
  ∀ (s : State) (rest : List Turn), s.env = .irq :: rest →
    (s.halted = true ∨ getFlag .i s.p = true → step s = .next { s with env := rest }) ∧
    (s.halted = false → getFlag .i s.p = false →
      ∃ t, step s = .next t ∧ t.env = rest ∧
        Enters 0xFFFE ((s.p &&& 0xEF) ||| 0x20) [.i] { s with env := rest } t)

/-- An NMI request is masked by nothing but Halt: it stacks PC and P as stored with bit 5 set, sets P.B and P.I and loads PC from
$FFFA (R338). The pushed copy is the spec's choice D9, 7 cycles is D16. -/
def Obligations.NmiRequest : Prop :=
  ∀ (s : State) (rest : List Turn), s.env = .nmi :: rest →
    (s.halted = true → step s = .next { s with env := rest }) ∧
    (s.halted = false → ∃ t, step s = .next t ∧ t.env = rest ∧
      Enters 0xFFFA (s.p ||| 0x20) [.b, .i] { s with env := rest } t)

/-- An RTI right after an interrupt entry resumes at the boundary PC with S, A, X, Y as they were and P as the entry pushed it
(R253, R337, R338, R343). -/
def Obligations.InterruptThenRti : Prop :=
  ∀ s : State, s.halted = false →
    (getFlag .i s.p = false → ∃ t, exec .rti (irqRequest s) = .next t ∧
      t.pc = s.pc ∧ t.p = (s.p &&& 0xEF) ||| 0x20 ∧ ∀ r, t.reg r = s.reg r) ∧
    ∃ t, exec .rti (nmiRequest s) = .next t ∧ t.pc = s.pc ∧ t.p = s.p ||| 0x20 ∧ ∀ r, t.reg r = s.reg r

/-- Reset (R380) in any state, halted or not: registers, flags, latch and counters at their values, RAM drawn anew, nothing
stacked, PC read from the vector under the latch just set: from the KERNAL image when no cartridge drives the lines. P.I is
as the parameter RESET_P says (R7, R381). The values of P, latch, halted, CYCLES and RAM are the spec's choices D4, D5, D19, D21,
D6. -/
def Obligations.ResetEvent : Prop :=
  ∀ (s : State) (rest : List Turn), s.env = .reset :: rest → ∃ t, step s = .next t ∧
    t.a = 0x00 ∧ t.x = 0x00 ∧ t.y = 0x00 ∧ t.sp = 0xFD ∧
    (∀ f, getFlag f t.p = decide (f = .u ∨ f = .i ∧ s.setup.resetP = .irqDisabled)) ∧
    t.latch = ⟨true, true, true, s.latch.game, s.latch.exrom⟩ ∧ t.halted = false ∧ t.cycles = 0 ∧
    t.pc = word (peek t 0xFFFD) (peek t 0xFFFC) ∧
    (s.latch.game = true → t.pc = word (kernalByte s.setup 0x1FFD) (kernalByte s.setup 0x1FFC)) ∧
    (∀ a, ramByte t a = Config.ramInit (s.epoch + 1) a) ∧ t.epoch = s.epoch + 1 ∧
    t.setup = s.setup ∧ t.env = rest ∧ t.portLog = s.portLog ∧ t.draws = s.draws

/-- Requests held for one boundary: reset discards the others; NMI comes before IRQ, and an IRQ after the NMI entry is a no-op
(R341). The order is the spec's choice D13. -/
def Obligations.RequestPriority : Prop :=
  ∀ (s : State) (rest : List Turn) (n i : Bool),
    step { s with env := .together true n i :: rest } = step { s with env := .reset :: rest } ∧
    step { s with env := .together false true i :: rest } = step { s with env := .nmi :: rest } ∧
    step { s with env := .together false false true :: rest } = step { s with env := .irq :: rest } ∧
    step { s with env := .together false false false :: rest } = .next { s with env := rest }

/-- A held step of an opcode that is no JAM: PC and every register, flag, latch bit and byte are as before, 0 cycles are
reported and none counted, only the fetch and pointer reads were made; with no device port nothing but the report tells
(R353). The 0 is the spec's choice D28. -/
def Obligations.HeldStep : Prop :=
  ∀ (s : State) (rest : List Turn), s.halted = false → s.env = .instr true :: rest → (fetch s).1.mnemonic ≠ .jam →
    ∃ t, step s = .next t ∧ t.pc = s.pc ∧ t.p = s.p ∧ (∀ r, t.reg r = s.reg r) ∧ MemoryKept s t ∧
      t.setup = s.setup ∧ t.halted = false ∧ t.report = .cycles 0 ∧ t.cycles = s.cycles ∧ t.env = rest ∧
      t.epoch = s.epoch ∧ t.draws = s.draws ∧
      t.portLog = (resolvedState (fetch s).1 (fetch s).2).portLog ∧
      (s.setup.devicePort = false → t = { s with env := rest, report := .cycles 0 })

/-- The host's turns (R33, R78, R391, R395): a raw write reaches RAM alone, even at $0001; a mapped write is an instruction's
write; a write of P keeps bit 5 set and a write of another register sets it; the cartridge lines change GAME and EXROM alone.
Host register writes are the spec's choice D32. -/
def Obligations.HostOperations : Prop :=
  ∀ (s : State) (rest : List Turn),
    (∀ a v, s.env = .rawWrite a v :: rest → ∃ t, step s = .next t ∧ ramByte t a = v ∧
      (∀ b, b ≠ a → ramByte t b = ramByte s b) ∧ t = { s with env := rest, ram := t.ram }) ∧
    (∀ a v, s.env = .mappedWrite a v :: rest → step s = .next (busWrite { s with env := rest } a v)) ∧
    (∀ a, s.env = .mappedRead a :: rest → step s = .next (afterRead { s with env := rest } a)) ∧
    (∀ v, s.env = .setReg (.p v) :: rest → step s = .next { s with env := rest, p := v ||| 0x20 }) ∧
    (∀ v, s.env = .setReg (.pc v) :: rest → step s = .next { s with env := rest, pc := v }) ∧
    (∀ v, s.env = .setReg (.a v) :: rest → step s = .next { s with env := rest, a := v }) ∧
    (∀ v, s.env = .setReg (.x v) :: rest → step s = .next { s with env := rest, x := v }) ∧
    (∀ v, s.env = .setReg (.y v) :: rest → step s = .next { s with env := rest, y := v }) ∧
    (∀ v, s.env = .setReg (.s v) :: rest → step s = .next { s with env := rest, sp := v }) ∧
    ∀ g e, s.env = .lines g e :: rest →
      step s = .next { s with env := rest, latch := { s.latch with game := g, exrom := e } }

/-- A program load (R392): N data bytes stored raw from the file's load address up, mod 65536, every other byte, the latch and
every register as before; at $0801 each given pointer, when no other lies one byte from it, holds $0801 + N. Raw writes and the
pointers' addresses as the environment's input are log 12. -/
def Obligations.ProgramLoad : Prop :=
  ∀ (s : State) (rest : List Turn) (b0 b1 : Byte) (data : List Byte) (ptrs : List Word),
    s.env = .loadProgram (b0 :: b1 :: data) ptrs :: rest → data.length ≤ 65536 →
    ∃ t, step s = .next t ∧ t = { s with env := rest, ram := t.ram } ∧
      (∀ (k : Nat) (v : Byte), data[k]? = some v →
        (word b1 b0 = 0x0801 → ∀ q, q ∈ ptrs → word b1 b0 + BitVec.ofNat 16 k ∉ [q, q + 1]) →
        ramByte t (word b1 b0 + BitVec.ofNat 16 k) = v) ∧
      (∀ b, (∀ k, k < data.length → b ≠ word b1 b0 + BitVec.ofNat 16 k) →
        (word b1 b0 = 0x0801 → ∀ q, q ∈ ptrs → b ∉ [q, q + 1]) → ramByte t b = ramByte s b) ∧
      (word b1 b0 = 0x0801 → ∀ q, q ∈ ptrs → (∀ r, r ∈ ptrs → r ≠ q + 1 ∧ q ≠ r + 1) →
        (word (ramByte t (q + 1)) (ramByte t q)).toNat = (0x0801 + data.length) % 65536)
end

