-- ==== Sys2Proof/Laws/Memory.lean ====
section
/-! SUPPORT. Laws of the canonical memory: read after write, and that a write keeps the form. -/

namespace Sys2Proof.Machine

/-- A read after a write at the same address gives the byte written. -/
@[simp] theorem Memory.get?_set_same (m : Memory) (a : Nat) (v : Byte) : Memory.get? (Memory.set m a v) a = some v := by
  induction m with
  | nil => simp [Memory.set, Memory.get?]
  | cons e rest ih =>
    obtain ⟨k, b⟩ := e
    simp only [Memory.set]
    split
    · simp [Memory.get?]
    · split
      · simp [Memory.get?, *]
      · have : k ≠ a := fun h => by simp_all
        simp [Memory.get?, ih, this]

/-- A write leaves every other address as it was. -/
theorem Memory.get?_set_other (m : Memory) (a b : Nat) (v : Byte) (h : b ≠ a) :
    Memory.get? (Memory.set m a v) b = Memory.get? m b := by
  induction m with
  | nil => simp [Memory.set, Memory.get?, h.symm]
  | cons e rest ih =>
    obtain ⟨k, w⟩ := e
    simp only [Memory.set]
    split
    · simp [Memory.get?, h.symm]
    · split
      · have : k ≠ b := fun hk => h (by omega)
        simp [Memory.get?, this]
      · simp [Memory.get?, ih]

/-- A store rising from an address rises from every lower one. -/
theorem Memory.risingFrom_mono {size lo lo' : Nat} (h : lo' ≤ lo) :
    ∀ {m : Memory}, Memory.risingFrom size lo m = true → Memory.risingFrom size lo' m = true
  | [], _ => rfl
  | (k, b) :: rest, hm => by
    simp only [Memory.risingFrom, Bool.and_eq_true, decide_eq_true_eq] at hm ⊢
    exact ⟨⟨by omega, hm.1.2⟩, hm.2⟩

/-- Writing at an address from `low` up keeps the store rising from `low`. -/
theorem Memory.risingFrom_set {size a : Nat} (v : Byte) (ha : a < size) :
    ∀ {m : Memory} {low : Nat}, low ≤ a → Memory.risingFrom size low m = true →
      Memory.risingFrom size low (Memory.set m a v) = true
  | [], low, hl, _ => by simp [Memory.set, Memory.risingFrom, hl, ha]
  | (k, b) :: rest, low, hl, hm => by
    simp only [Memory.risingFrom, Bool.and_eq_true, decide_eq_true_eq] at hm
    simp only [Memory.set]
    split
    · simp only [Memory.risingFrom, Bool.and_eq_true, decide_eq_true_eq]
      exact ⟨⟨hl, ha⟩, ⟨by omega, hm.1.2⟩, hm.2⟩
    · split
      · simp only [Memory.risingFrom, Bool.and_eq_true, decide_eq_true_eq]
        exact ⟨⟨hm.1.1, hm.1.2⟩, hm.2⟩
      · simp only [Memory.risingFrom, Bool.and_eq_true, decide_eq_true_eq]
        exact ⟨⟨hm.1.1, hm.1.2⟩, Memory.risingFrom_set v ha (by omega) hm.2⟩

/-- A write in range keeps the canonical form. -/
theorem Memory.wf_set {size a : Nat} {m : Memory} (v : Byte) (ha : a < size) (h : Memory.wf size m = true) :
    Memory.wf size (Memory.set m a v) = true :=
  Memory.risingFrom_set v ha (Nat.zero_le a) h

/-- The empty store is canonical. -/
@[simp] theorem Memory.wf_nil (size : Nat) : Memory.wf size [] = true := rfl

/-- Below the first address of a rising store nothing is listed. -/
theorem Memory.get?_of_lt {size low a : Nat} (h : a < low) :
    ∀ {m : Memory}, Memory.risingFrom size low m = true → Memory.get? m a = none
  | [], _ => rfl
  | (k, b) :: rest, hm => by
    simp only [Memory.risingFrom, Bool.and_eq_true, decide_eq_true_eq] at hm
    have : k ≠ a := by omega
    simp [Memory.get?, this, Memory.get?_of_lt (by omega : a < k + 1) hm.2]

/-- The form is canonical: two rising stores that answer alike at every address are the same data. -/
theorem Memory.ext_of_rising {size : Nat} :
    ∀ {m n : Memory} {low : Nat}, Memory.risingFrom size low m = true → Memory.risingFrom size low n = true →
      (∀ a, Memory.get? m a = Memory.get? n a) → m = n
  | [], [], _, _, _, _ => rfl
  | [], (k, b) :: _, _, _, _, h => by simpa [Memory.get?] using h k
  | (k, b) :: _, [], _, _, _, h => by simpa [Memory.get?] using h k
  | (k, b) :: m, (l, c) :: n, low, hm, hn, h => by
    simp only [Memory.risingFrom, Bool.and_eq_true, decide_eq_true_eq] at hm hn
    have hkl : k = l := by
      rcases Nat.lt_trichotomy k l with hlt | heq | hlt
      · have := h k
        have hnone := Memory.get?_of_lt (by omega : k < l + 1) hn.2
        simp only [Memory.get?, if_true, if_neg (by omega : l ≠ k), hnone] at this
        simp at this
      · exact heq
      · have := h l
        have hnone := Memory.get?_of_lt (by omega : l < k + 1) hm.2
        simp only [Memory.get?, if_true, if_neg (by omega : k ≠ l), hnone] at this
        simp at this
    subst hkl
    have hbc : b = c := by simpa [Memory.get?] using h k
    subst hbc
    have : m = n := Memory.ext_of_rising hm.2 hn.2 fun a => by
      by_cases hak : k = a
      · subst hak
        rw [Memory.get?_of_lt (by omega) hm.2, Memory.get?_of_lt (by omega) hn.2]
      · simpa [Memory.get?, hak] using h a
    rw [this]

end Sys2Proof.Machine
end

