-- ==== Sys2Proof/Laws/State.lean ====
section
/-! SUPPORT. One lemma per field per update: what the named operations leave as it was, and the values they set. No later
proof unfolds a record update. -/

namespace Sys2Proof.Machine

@[simp] theorem rawWrite_a (s : State) (b : Word) (v : Byte) : (rawWrite s b v).a = s.a := rfl
@[simp] theorem rawWrite_x (s : State) (b : Word) (v : Byte) : (rawWrite s b v).x = s.x := rfl
@[simp] theorem rawWrite_y (s : State) (b : Word) (v : Byte) : (rawWrite s b v).y = s.y := rfl
@[simp] theorem rawWrite_sp (s : State) (b : Word) (v : Byte) : (rawWrite s b v).sp = s.sp := rfl
@[simp] theorem rawWrite_p (s : State) (b : Word) (v : Byte) : (rawWrite s b v).p = s.p := rfl
@[simp] theorem rawWrite_pc (s : State) (b : Word) (v : Byte) : (rawWrite s b v).pc = s.pc := rfl
@[simp] theorem rawWrite_latch (s : State) (b : Word) (v : Byte) : (rawWrite s b v).latch = s.latch := rfl
@[simp] theorem rawWrite_setup (s : State) (b : Word) (v : Byte) : (rawWrite s b v).setup = s.setup := rfl
@[simp] theorem rawWrite_halted (s : State) (b : Word) (v : Byte) : (rawWrite s b v).halted = s.halted := rfl
@[simp] theorem rawWrite_cycles (s : State) (b : Word) (v : Byte) : (rawWrite s b v).cycles = s.cycles := rfl
@[simp] theorem rawWrite_report (s : State) (b : Word) (v : Byte) : (rawWrite s b v).report = s.report := rfl
@[simp] theorem rawWrite_env (s : State) (b : Word) (v : Byte) : (rawWrite s b v).env = s.env := rfl
@[simp] theorem rawWrite_portLog (s : State) (b : Word) (v : Byte) : (rawWrite s b v).portLog = s.portLog := rfl
@[simp] theorem rawWrite_epoch (s : State) (b : Word) (v : Byte) : (rawWrite s b v).epoch = s.epoch := rfl
@[simp] theorem rawWrite_draws (s : State) (b : Word) (v : Byte) : (rawWrite s b v).draws = s.draws := rfl

@[simp] theorem afterRead_a (s : State) (b : Word) : (afterRead s b).a = s.a := by unfold afterRead; split <;> rfl
@[simp] theorem afterRead_x (s : State) (b : Word) : (afterRead s b).x = s.x := by unfold afterRead; split <;> rfl
@[simp] theorem afterRead_y (s : State) (b : Word) : (afterRead s b).y = s.y := by unfold afterRead; split <;> rfl
@[simp] theorem afterRead_sp (s : State) (b : Word) : (afterRead s b).sp = s.sp := by unfold afterRead; split <;> rfl
@[simp] theorem afterRead_p (s : State) (b : Word) : (afterRead s b).p = s.p := by unfold afterRead; split <;> rfl
@[simp] theorem afterRead_pc (s : State) (b : Word) : (afterRead s b).pc = s.pc := by unfold afterRead; split <;> rfl
@[simp] theorem afterRead_latch (s : State) (b : Word) : (afterRead s b).latch = s.latch := by unfold afterRead; split <;> rfl
@[simp] theorem afterRead_ram (s : State) (b : Word) : (afterRead s b).ram = s.ram := by unfold afterRead; split <;> rfl
@[simp] theorem afterRead_setup (s : State) (b : Word) : (afterRead s b).setup = s.setup := by unfold afterRead; split <;> rfl
@[simp] theorem afterRead_halted (s : State) (b : Word) : (afterRead s b).halted = s.halted := by unfold afterRead; split <;> rfl
@[simp] theorem afterRead_cycles (s : State) (b : Word) : (afterRead s b).cycles = s.cycles := by unfold afterRead; split <;> rfl
@[simp] theorem afterRead_report (s : State) (b : Word) : (afterRead s b).report = s.report := by unfold afterRead; split <;> rfl
@[simp] theorem afterRead_env (s : State) (b : Word) : (afterRead s b).env = s.env := by unfold afterRead; split <;> rfl
@[simp] theorem afterRead_epoch (s : State) (b : Word) : (afterRead s b).epoch = s.epoch := by unfold afterRead; split <;> rfl
@[simp] theorem afterRead_draws (s : State) (b : Word) : (afterRead s b).draws = s.draws := by unfold afterRead; split <;> rfl

@[simp] theorem afterReadWord_a (s : State) (b : Word) : (afterReadWord s b).a = s.a := by simp [afterReadWord]
@[simp] theorem afterReadWord_x (s : State) (b : Word) : (afterReadWord s b).x = s.x := by simp [afterReadWord]
@[simp] theorem afterReadWord_y (s : State) (b : Word) : (afterReadWord s b).y = s.y := by simp [afterReadWord]
@[simp] theorem afterReadWord_sp (s : State) (b : Word) : (afterReadWord s b).sp = s.sp := by simp [afterReadWord]
@[simp] theorem afterReadWord_p (s : State) (b : Word) : (afterReadWord s b).p = s.p := by simp [afterReadWord]
@[simp] theorem afterReadWord_pc (s : State) (b : Word) : (afterReadWord s b).pc = s.pc := by simp [afterReadWord]
@[simp] theorem afterReadWord_latch (s : State) (b : Word) : (afterReadWord s b).latch = s.latch := by simp [afterReadWord]
@[simp] theorem afterReadWord_ram (s : State) (b : Word) : (afterReadWord s b).ram = s.ram := by simp [afterReadWord]
@[simp] theorem afterReadWord_setup (s : State) (b : Word) : (afterReadWord s b).setup = s.setup := by simp [afterReadWord]
@[simp] theorem afterReadWord_halted (s : State) (b : Word) : (afterReadWord s b).halted = s.halted := by simp [afterReadWord]
@[simp] theorem afterReadWord_cycles (s : State) (b : Word) : (afterReadWord s b).cycles = s.cycles := by simp [afterReadWord]
@[simp] theorem afterReadWord_report (s : State) (b : Word) : (afterReadWord s b).report = s.report := by simp [afterReadWord]
@[simp] theorem afterReadWord_env (s : State) (b : Word) : (afterReadWord s b).env = s.env := by simp [afterReadWord]
@[simp] theorem afterReadWord_epoch (s : State) (b : Word) : (afterReadWord s b).epoch = s.epoch := by simp [afterReadWord]
@[simp] theorem afterReadWord_draws (s : State) (b : Word) : (afterReadWord s b).draws = s.draws := by simp [afterReadWord]

@[simp] theorem busWrite_a (s : State) (b : Word) (v : Byte) : (busWrite s b v).a = s.a := by unfold busWrite; split <;> (try split) <;> rfl
@[simp] theorem busWrite_x (s : State) (b : Word) (v : Byte) : (busWrite s b v).x = s.x := by unfold busWrite; split <;> (try split) <;> rfl
@[simp] theorem busWrite_y (s : State) (b : Word) (v : Byte) : (busWrite s b v).y = s.y := by unfold busWrite; split <;> (try split) <;> rfl
@[simp] theorem busWrite_sp (s : State) (b : Word) (v : Byte) : (busWrite s b v).sp = s.sp := by unfold busWrite; split <;> (try split) <;> rfl
@[simp] theorem busWrite_p (s : State) (b : Word) (v : Byte) : (busWrite s b v).p = s.p := by unfold busWrite; split <;> (try split) <;> rfl
@[simp] theorem busWrite_pc (s : State) (b : Word) (v : Byte) : (busWrite s b v).pc = s.pc := by unfold busWrite; split <;> (try split) <;> rfl
@[simp] theorem busWrite_setup (s : State) (b : Word) (v : Byte) : (busWrite s b v).setup = s.setup := by unfold busWrite; split <;> (try split) <;> rfl
@[simp] theorem busWrite_halted (s : State) (b : Word) (v : Byte) : (busWrite s b v).halted = s.halted := by unfold busWrite; split <;> (try split) <;> rfl
@[simp] theorem busWrite_cycles (s : State) (b : Word) (v : Byte) : (busWrite s b v).cycles = s.cycles := by unfold busWrite; split <;> (try split) <;> rfl
@[simp] theorem busWrite_report (s : State) (b : Word) (v : Byte) : (busWrite s b v).report = s.report := by unfold busWrite; split <;> (try split) <;> rfl
@[simp] theorem busWrite_env (s : State) (b : Word) (v : Byte) : (busWrite s b v).env = s.env := by unfold busWrite; split <;> (try split) <;> rfl
@[simp] theorem busWrite_epoch (s : State) (b : Word) (v : Byte) : (busWrite s b v).epoch = s.epoch := by unfold busWrite; split <;> (try split) <;> rfl
@[simp] theorem busWrite_draws (s : State) (b : Word) (v : Byte) : (busWrite s b v).draws = s.draws := by unfold busWrite; split <;> (try split) <;> rfl

@[simp] theorem push_a (s : State) (v : Byte) : (push s v).a = s.a := by simp [push]
@[simp] theorem push_x (s : State) (v : Byte) : (push s v).x = s.x := by simp [push]
@[simp] theorem push_y (s : State) (v : Byte) : (push s v).y = s.y := by simp [push]
@[simp] theorem push_p (s : State) (v : Byte) : (push s v).p = s.p := by simp [push]
@[simp] theorem push_pc (s : State) (v : Byte) : (push s v).pc = s.pc := by simp [push]
@[simp] theorem push_setup (s : State) (v : Byte) : (push s v).setup = s.setup := by simp [push]
@[simp] theorem push_halted (s : State) (v : Byte) : (push s v).halted = s.halted := by simp [push]
@[simp] theorem push_cycles (s : State) (v : Byte) : (push s v).cycles = s.cycles := by simp [push]
@[simp] theorem push_report (s : State) (v : Byte) : (push s v).report = s.report := by simp [push]
@[simp] theorem push_env (s : State) (v : Byte) : (push s v).env = s.env := by simp [push]
@[simp] theorem push_epoch (s : State) (v : Byte) : (push s v).epoch = s.epoch := by simp [push]
@[simp] theorem push_draws (s : State) (v : Byte) : (push s v).draws = s.draws := by simp [push]

@[simp] theorem afterPull_a (s : State) : (afterPull s).a = s.a := by simp [afterPull]
@[simp] theorem afterPull_x (s : State) : (afterPull s).x = s.x := by simp [afterPull]
@[simp] theorem afterPull_y (s : State) : (afterPull s).y = s.y := by simp [afterPull]
@[simp] theorem afterPull_p (s : State) : (afterPull s).p = s.p := by simp [afterPull]
@[simp] theorem afterPull_pc (s : State) : (afterPull s).pc = s.pc := by simp [afterPull]
@[simp] theorem afterPull_latch (s : State) : (afterPull s).latch = s.latch := by simp [afterPull]
@[simp] theorem afterPull_ram (s : State) : (afterPull s).ram = s.ram := by simp [afterPull]
@[simp] theorem afterPull_setup (s : State) : (afterPull s).setup = s.setup := by simp [afterPull]
@[simp] theorem afterPull_halted (s : State) : (afterPull s).halted = s.halted := by simp [afterPull]
@[simp] theorem afterPull_cycles (s : State) : (afterPull s).cycles = s.cycles := by simp [afterPull]
@[simp] theorem afterPull_report (s : State) : (afterPull s).report = s.report := by simp [afterPull]
@[simp] theorem afterPull_env (s : State) : (afterPull s).env = s.env := by simp [afterPull]
@[simp] theorem afterPull_epoch (s : State) : (afterPull s).epoch = s.epoch := by simp [afterPull]
@[simp] theorem afterPull_draws (s : State) : (afterPull s).draws = s.draws := by simp [afterPull]

@[simp] theorem account_a (i : Instr) (n : Nat) (s : State) : (account i n s).a = s.a := rfl
@[simp] theorem account_x (i : Instr) (n : Nat) (s : State) : (account i n s).x = s.x := rfl
@[simp] theorem account_y (i : Instr) (n : Nat) (s : State) : (account i n s).y = s.y := rfl
@[simp] theorem account_sp (i : Instr) (n : Nat) (s : State) : (account i n s).sp = s.sp := rfl
@[simp] theorem account_p (i : Instr) (n : Nat) (s : State) : (account i n s).p = s.p := rfl
@[simp] theorem account_pc (i : Instr) (n : Nat) (s : State) : (account i n s).pc = s.pc := rfl
@[simp] theorem account_latch (i : Instr) (n : Nat) (s : State) : (account i n s).latch = s.latch := rfl
@[simp] theorem account_ram (i : Instr) (n : Nat) (s : State) : (account i n s).ram = s.ram := rfl
@[simp] theorem account_setup (i : Instr) (n : Nat) (s : State) : (account i n s).setup = s.setup := rfl
@[simp] theorem account_halted (i : Instr) (n : Nat) (s : State) : (account i n s).halted = s.halted := rfl
@[simp] theorem account_env (i : Instr) (n : Nat) (s : State) : (account i n s).env = s.env := rfl
@[simp] theorem account_portLog (i : Instr) (n : Nat) (s : State) : (account i n s).portLog = s.portLog := rfl
@[simp] theorem account_epoch (i : Instr) (n : Nat) (s : State) : (account i n s).epoch = s.epoch := rfl
@[simp] theorem account_draws (i : Instr) (n : Nat) (s : State) : (account i n s).draws = s.draws := rfl

@[simp] theorem retire_a (i : Instr) (c : Bool) (s : State) : (retire i c s).a = s.a := rfl
@[simp] theorem retire_x (i : Instr) (c : Bool) (s : State) : (retire i c s).x = s.x := rfl
@[simp] theorem retire_y (i : Instr) (c : Bool) (s : State) : (retire i c s).y = s.y := rfl
@[simp] theorem retire_sp (i : Instr) (c : Bool) (s : State) : (retire i c s).sp = s.sp := rfl
@[simp] theorem retire_p (i : Instr) (c : Bool) (s : State) : (retire i c s).p = s.p := rfl
@[simp] theorem retire_latch (i : Instr) (c : Bool) (s : State) : (retire i c s).latch = s.latch := rfl
@[simp] theorem retire_ram (i : Instr) (c : Bool) (s : State) : (retire i c s).ram = s.ram := rfl
@[simp] theorem retire_setup (i : Instr) (c : Bool) (s : State) : (retire i c s).setup = s.setup := rfl
@[simp] theorem retire_halted (i : Instr) (c : Bool) (s : State) : (retire i c s).halted = s.halted := rfl
@[simp] theorem retire_env (i : Instr) (c : Bool) (s : State) : (retire i c s).env = s.env := rfl
@[simp] theorem retire_portLog (i : Instr) (c : Bool) (s : State) : (retire i c s).portLog = s.portLog := rfl
@[simp] theorem retire_epoch (i : Instr) (c : Bool) (s : State) : (retire i c s).epoch = s.epoch := rfl
@[simp] theorem retire_draws (i : Instr) (c : Bool) (s : State) : (retire i c s).draws = s.draws := rfl

@[simp] theorem loadA_x (m : Byte) (s : State) : (loadA m s).x = s.x := rfl
@[simp] theorem loadA_y (m : Byte) (s : State) : (loadA m s).y = s.y := rfl
@[simp] theorem loadA_sp (m : Byte) (s : State) : (loadA m s).sp = s.sp := rfl
@[simp] theorem loadA_pc (m : Byte) (s : State) : (loadA m s).pc = s.pc := rfl
@[simp] theorem loadA_latch (m : Byte) (s : State) : (loadA m s).latch = s.latch := rfl
@[simp] theorem loadA_ram (m : Byte) (s : State) : (loadA m s).ram = s.ram := rfl
@[simp] theorem loadA_setup (m : Byte) (s : State) : (loadA m s).setup = s.setup := rfl
@[simp] theorem loadA_halted (m : Byte) (s : State) : (loadA m s).halted = s.halted := rfl
@[simp] theorem loadA_cycles (m : Byte) (s : State) : (loadA m s).cycles = s.cycles := rfl
@[simp] theorem loadA_report (m : Byte) (s : State) : (loadA m s).report = s.report := rfl
@[simp] theorem loadA_env (m : Byte) (s : State) : (loadA m s).env = s.env := rfl
@[simp] theorem loadA_portLog (m : Byte) (s : State) : (loadA m s).portLog = s.portLog := rfl
@[simp] theorem loadA_epoch (m : Byte) (s : State) : (loadA m s).epoch = s.epoch := rfl
@[simp] theorem loadA_draws (m : Byte) (s : State) : (loadA m s).draws = s.draws := rfl

@[simp] theorem loadX_a (m : Byte) (s : State) : (loadX m s).a = s.a := rfl
@[simp] theorem loadX_y (m : Byte) (s : State) : (loadX m s).y = s.y := rfl
@[simp] theorem loadX_sp (m : Byte) (s : State) : (loadX m s).sp = s.sp := rfl
@[simp] theorem loadX_pc (m : Byte) (s : State) : (loadX m s).pc = s.pc := rfl
@[simp] theorem loadX_latch (m : Byte) (s : State) : (loadX m s).latch = s.latch := rfl
@[simp] theorem loadX_ram (m : Byte) (s : State) : (loadX m s).ram = s.ram := rfl
@[simp] theorem loadX_setup (m : Byte) (s : State) : (loadX m s).setup = s.setup := rfl
@[simp] theorem loadX_halted (m : Byte) (s : State) : (loadX m s).halted = s.halted := rfl
@[simp] theorem loadX_cycles (m : Byte) (s : State) : (loadX m s).cycles = s.cycles := rfl
@[simp] theorem loadX_report (m : Byte) (s : State) : (loadX m s).report = s.report := rfl
@[simp] theorem loadX_env (m : Byte) (s : State) : (loadX m s).env = s.env := rfl
@[simp] theorem loadX_portLog (m : Byte) (s : State) : (loadX m s).portLog = s.portLog := rfl
@[simp] theorem loadX_epoch (m : Byte) (s : State) : (loadX m s).epoch = s.epoch := rfl
@[simp] theorem loadX_draws (m : Byte) (s : State) : (loadX m s).draws = s.draws := rfl

@[simp] theorem loadY_a (m : Byte) (s : State) : (loadY m s).a = s.a := rfl
@[simp] theorem loadY_x (m : Byte) (s : State) : (loadY m s).x = s.x := rfl
@[simp] theorem loadY_sp (m : Byte) (s : State) : (loadY m s).sp = s.sp := rfl
@[simp] theorem loadY_pc (m : Byte) (s : State) : (loadY m s).pc = s.pc := rfl
@[simp] theorem loadY_latch (m : Byte) (s : State) : (loadY m s).latch = s.latch := rfl
@[simp] theorem loadY_ram (m : Byte) (s : State) : (loadY m s).ram = s.ram := rfl
@[simp] theorem loadY_setup (m : Byte) (s : State) : (loadY m s).setup = s.setup := rfl
@[simp] theorem loadY_halted (m : Byte) (s : State) : (loadY m s).halted = s.halted := rfl
@[simp] theorem loadY_cycles (m : Byte) (s : State) : (loadY m s).cycles = s.cycles := rfl
@[simp] theorem loadY_report (m : Byte) (s : State) : (loadY m s).report = s.report := rfl
@[simp] theorem loadY_env (m : Byte) (s : State) : (loadY m s).env = s.env := rfl
@[simp] theorem loadY_portLog (m : Byte) (s : State) : (loadY m s).portLog = s.portLog := rfl
@[simp] theorem loadY_epoch (m : Byte) (s : State) : (loadY m s).epoch = s.epoch := rfl
@[simp] theorem loadY_draws (m : Byte) (s : State) : (loadY m s).draws = s.draws := rfl

@[simp] theorem adcEffect_x (m : Byte) (s : State) : (adcEffect m s).x = s.x := rfl
@[simp] theorem adcEffect_y (m : Byte) (s : State) : (adcEffect m s).y = s.y := rfl
@[simp] theorem adcEffect_sp (m : Byte) (s : State) : (adcEffect m s).sp = s.sp := rfl
@[simp] theorem adcEffect_pc (m : Byte) (s : State) : (adcEffect m s).pc = s.pc := rfl
@[simp] theorem adcEffect_latch (m : Byte) (s : State) : (adcEffect m s).latch = s.latch := rfl
@[simp] theorem adcEffect_ram (m : Byte) (s : State) : (adcEffect m s).ram = s.ram := rfl
@[simp] theorem adcEffect_setup (m : Byte) (s : State) : (adcEffect m s).setup = s.setup := rfl
@[simp] theorem adcEffect_halted (m : Byte) (s : State) : (adcEffect m s).halted = s.halted := rfl
@[simp] theorem adcEffect_cycles (m : Byte) (s : State) : (adcEffect m s).cycles = s.cycles := rfl
@[simp] theorem adcEffect_report (m : Byte) (s : State) : (adcEffect m s).report = s.report := rfl
@[simp] theorem adcEffect_env (m : Byte) (s : State) : (adcEffect m s).env = s.env := rfl
@[simp] theorem adcEffect_portLog (m : Byte) (s : State) : (adcEffect m s).portLog = s.portLog := rfl
@[simp] theorem adcEffect_epoch (m : Byte) (s : State) : (adcEffect m s).epoch = s.epoch := rfl
@[simp] theorem adcEffect_draws (m : Byte) (s : State) : (adcEffect m s).draws = s.draws := rfl

@[simp] theorem sbcEffect_x (m : Byte) (s : State) : (sbcEffect m s).x = s.x := rfl
@[simp] theorem sbcEffect_y (m : Byte) (s : State) : (sbcEffect m s).y = s.y := rfl
@[simp] theorem sbcEffect_sp (m : Byte) (s : State) : (sbcEffect m s).sp = s.sp := rfl
@[simp] theorem sbcEffect_pc (m : Byte) (s : State) : (sbcEffect m s).pc = s.pc := rfl
@[simp] theorem sbcEffect_latch (m : Byte) (s : State) : (sbcEffect m s).latch = s.latch := rfl
@[simp] theorem sbcEffect_ram (m : Byte) (s : State) : (sbcEffect m s).ram = s.ram := rfl
@[simp] theorem sbcEffect_setup (m : Byte) (s : State) : (sbcEffect m s).setup = s.setup := rfl
@[simp] theorem sbcEffect_halted (m : Byte) (s : State) : (sbcEffect m s).halted = s.halted := rfl
@[simp] theorem sbcEffect_cycles (m : Byte) (s : State) : (sbcEffect m s).cycles = s.cycles := rfl
@[simp] theorem sbcEffect_report (m : Byte) (s : State) : (sbcEffect m s).report = s.report := rfl
@[simp] theorem sbcEffect_env (m : Byte) (s : State) : (sbcEffect m s).env = s.env := rfl
@[simp] theorem sbcEffect_portLog (m : Byte) (s : State) : (sbcEffect m s).portLog = s.portLog := rfl
@[simp] theorem sbcEffect_epoch (m : Byte) (s : State) : (sbcEffect m s).epoch = s.epoch := rfl
@[simp] theorem sbcEffect_draws (m : Byte) (s : State) : (sbcEffect m s).draws = s.draws := rfl

@[simp] theorem afterPointer_a (s : State) (b : Word) : (afterPointer s b).a = s.a := by simp [afterPointer]
@[simp] theorem afterPointer_x (s : State) (b : Word) : (afterPointer s b).x = s.x := by simp [afterPointer]
@[simp] theorem afterPointer_y (s : State) (b : Word) : (afterPointer s b).y = s.y := by simp [afterPointer]
@[simp] theorem afterPointer_sp (s : State) (b : Word) : (afterPointer s b).sp = s.sp := by simp [afterPointer]
@[simp] theorem afterPointer_p (s : State) (b : Word) : (afterPointer s b).p = s.p := by simp [afterPointer]
@[simp] theorem afterPointer_pc (s : State) (b : Word) : (afterPointer s b).pc = s.pc := by simp [afterPointer]
@[simp] theorem afterPointer_latch (s : State) (b : Word) : (afterPointer s b).latch = s.latch := by simp [afterPointer]
@[simp] theorem afterPointer_ram (s : State) (b : Word) : (afterPointer s b).ram = s.ram := by simp [afterPointer]
@[simp] theorem afterPointer_setup (s : State) (b : Word) : (afterPointer s b).setup = s.setup := by simp [afterPointer]
@[simp] theorem afterPointer_halted (s : State) (b : Word) : (afterPointer s b).halted = s.halted := by simp [afterPointer]
@[simp] theorem afterPointer_cycles (s : State) (b : Word) : (afterPointer s b).cycles = s.cycles := by simp [afterPointer]
@[simp] theorem afterPointer_report (s : State) (b : Word) : (afterPointer s b).report = s.report := by simp [afterPointer]
@[simp] theorem afterPointer_env (s : State) (b : Word) : (afterPointer s b).env = s.env := by simp [afterPointer]
@[simp] theorem afterPointer_epoch (s : State) (b : Word) : (afterPointer s b).epoch = s.epoch := by simp [afterPointer]
@[simp] theorem afterPointer_draws (s : State) (b : Word) : (afterPointer s b).draws = s.draws := by simp [afterPointer]

@[simp] theorem raiseHalt_a (s : State) : (raiseHalt s).a = s.a := rfl
@[simp] theorem raiseHalt_x (s : State) : (raiseHalt s).x = s.x := rfl
@[simp] theorem raiseHalt_y (s : State) : (raiseHalt s).y = s.y := rfl
@[simp] theorem raiseHalt_sp (s : State) : (raiseHalt s).sp = s.sp := rfl
@[simp] theorem raiseHalt_p (s : State) : (raiseHalt s).p = s.p := rfl
@[simp] theorem raiseHalt_pc (s : State) : (raiseHalt s).pc = s.pc := rfl
@[simp] theorem raiseHalt_latch (s : State) : (raiseHalt s).latch = s.latch := rfl
@[simp] theorem raiseHalt_ram (s : State) : (raiseHalt s).ram = s.ram := rfl
@[simp] theorem raiseHalt_setup (s : State) : (raiseHalt s).setup = s.setup := rfl
@[simp] theorem raiseHalt_cycles (s : State) : (raiseHalt s).cycles = s.cycles := rfl
@[simp] theorem raiseHalt_env (s : State) : (raiseHalt s).env = s.env := rfl
@[simp] theorem raiseHalt_portLog (s : State) : (raiseHalt s).portLog = s.portLog := rfl
@[simp] theorem raiseHalt_epoch (s : State) : (raiseHalt s).epoch = s.epoch := rfl
@[simp] theorem raiseHalt_draws (s : State) : (raiseHalt s).draws = s.draws := rfl

@[simp] theorem drawn_a (s : State) : (drawn s).a = s.a := rfl
@[simp] theorem drawn_x (s : State) : (drawn s).x = s.x := rfl
@[simp] theorem drawn_y (s : State) : (drawn s).y = s.y := rfl
@[simp] theorem drawn_sp (s : State) : (drawn s).sp = s.sp := rfl
@[simp] theorem drawn_p (s : State) : (drawn s).p = s.p := rfl
@[simp] theorem drawn_pc (s : State) : (drawn s).pc = s.pc := rfl
@[simp] theorem drawn_latch (s : State) : (drawn s).latch = s.latch := rfl
@[simp] theorem drawn_ram (s : State) : (drawn s).ram = s.ram := rfl
@[simp] theorem drawn_setup (s : State) : (drawn s).setup = s.setup := rfl
@[simp] theorem drawn_halted (s : State) : (drawn s).halted = s.halted := rfl
@[simp] theorem drawn_cycles (s : State) : (drawn s).cycles = s.cycles := rfl
@[simp] theorem drawn_report (s : State) : (drawn s).report = s.report := rfl
@[simp] theorem drawn_env (s : State) : (drawn s).env = s.env := rfl
@[simp] theorem drawn_portLog (s : State) : (drawn s).portLog = s.portLog := rfl
@[simp] theorem drawn_epoch (s : State) : (drawn s).epoch = s.epoch := rfl

@[simp] theorem push_sp (s : State) (v : Byte) : (push s v).sp = s.sp - 1 := by simp [push]
@[simp] theorem afterPull_sp (s : State) : (afterPull s).sp = s.sp + 1 := rfl
/-- A supplied base count counts. -/
theorem baseCycles_of_some {u : Setup} {i : Instr} {n : Nat} (h : u.cycleTable.lookup i.opcode = some n) :
    baseCycles u i = n := by simp [baseCycles, h]

/-- An opcode without a supplied count has R116's. -/
theorem baseCycles_of_none {u : Setup} {i : Instr} (h : u.cycleTable.lookup i.opcode = none) :
    baseCycles u i = i.row.cycles := by simp [baseCycles, h]

@[simp] theorem account_cycles (i : Instr) (n : Nat) (s : State) : (account i n s).cycles = s.cycles + (baseCycles s.setup i + n) := rfl
@[simp] theorem account_report (i : Instr) (n : Nat) (s : State) : (account i n s).report = .cycles (baseCycles s.setup i + n) := rfl
@[simp] theorem retire_cycles (i : Instr) (c : Bool) (s : State) :
    (retire i c s).cycles = s.cycles + (baseCycles s.setup i + penalty i c) := rfl
@[simp] theorem retire_report (i : Instr) (c : Bool) (s : State) :
    (retire i c s).report = .cycles (baseCycles s.setup i + penalty i c) := rfl
@[simp] theorem retire_pc (i : Instr) (c : Bool) (s : State) : (retire i c s).pc = s.pc + BitVec.ofNat 16 i.size := rfl
@[simp] theorem loadA_a (m : Byte) (s : State) : (loadA m s).a = m := rfl
@[simp] theorem loadA_p (m : Byte) (s : State) : (loadA m s).p = putNZ m s.p := rfl
@[simp] theorem loadX_x (m : Byte) (s : State) : (loadX m s).x = m := rfl
@[simp] theorem loadX_p (m : Byte) (s : State) : (loadX m s).p = putNZ m s.p := rfl
@[simp] theorem loadY_y (m : Byte) (s : State) : (loadY m s).y = m := rfl
@[simp] theorem loadY_p (m : Byte) (s : State) : (loadY m s).p = putNZ m s.p := rfl
@[simp] theorem adcEffect_a (m : Byte) (s : State) : (adcEffect m s).a = (addByMode s.p s.a m).result := rfl
@[simp] theorem adcEffect_p (m : Byte) (s : State) : (adcEffect m s).p = putAlu (addByMode s.p s.a m) s.p := rfl
@[simp] theorem sbcEffect_a (m : Byte) (s : State) : (sbcEffect m s).a = (subByMode s.p s.a m).result := rfl
@[simp] theorem sbcEffect_p (m : Byte) (s : State) : (sbcEffect m s).p = putAlu (subByMode s.p s.a m) s.p := rfl
@[simp] theorem raiseHalt_halted (s : State) : (raiseHalt s).halted = true := rfl
@[simp] theorem raiseHalt_report (s : State) : (raiseHalt s).report = .halt := rfl
@[simp] theorem rawWrite_ram (s : State) (b : Word) (v : Byte) : (rawWrite s b v).ram = Memory.set s.ram b.toNat v := rfl
@[simp] theorem drawn_draws (s : State) : (drawn s).draws = s.draws + 1 := rfl

end Sys2Proof.Machine
end

