-- ==== Sys2Proof/Laws/Word.lean ====
section
/-! SUPPORT. Laws of words and their bytes. -/

namespace Sys2Proof

/-- The bits of a word made of two bytes. -/
theorem getLsbD_word (h l : Byte) (k : Nat) :
    (word h l).getLsbD k = if k < 8 then l.getLsbD k else h.getLsbD (k - 8) :=
  BitVec.getLsbD_append

/-- A word's high byte. -/
@[simp] theorem hi_word (h l : Byte) : hi (word h l) = h := by
  refine BitVec.eq_of_getLsbD_eq fun k hk => ?_
  simp [hi, getLsbD_word, hk]

/-- A word's low byte. -/
@[simp] theorem lo_word (h l : Byte) : lo (word h l) = l := by
  refine BitVec.eq_of_getLsbD_eq fun k hk => ?_
  simp [lo, getLsbD_word, hk]

/-- A word is its two bytes. -/
@[simp] theorem word_hi_lo (w : Word) : word (hi w) (lo w) = w := by
  refine BitVec.eq_of_getLsbD_eq fun k hk => ?_
  rw [getLsbD_word]
  by_cases h : k < 8
  · simp [lo, h]
  · simp [hi, h, (by omega : k - 8 < 8), (by omega : 8 + (k - 8) = k)]

/-- A word as a number. -/
theorem toNat_word (h l : Byte) : (word h l).toNat = h.toNat * 256 + l.toNat := by
  have : (word h l).toNat = h.toNat <<< 8 ||| l.toNat := BitVec.toNat_append h l
  rw [this, ← Nat.shiftLeft_add_eq_or_of_lt l.isLt, Nat.shiftLeft_eq]

/-- Adding an index to a word adds mod 65536. -/
theorem toNat_add_zext16 (w : Word) (b : Byte) : (w + zext16 b).toNat = (w.toNat + b.toNat) % 65536 := by
  simp [zext16, toNat_word, BitVec.toNat_add]

end Sys2Proof
end

