-- ==== Sys2Proof/Laws/Bus.lean ====
section
/-! SUPPORT. Laws of the bank decoder, the arbiter, the stack and exception entry: each says once what its operation can do. -/

namespace Sys2Proof.Machine

/-- RAM is what the RAM list and the reset count make it. -/
theorem ramByte_congr {s t : State} (hr : t.ram = s.ram) (he : t.epoch = s.epoch) (a : Word) :
    ramByte t a = ramByte s a := by
  simp [ramByte, hr, he]

/-- Distinct addresses have distinct keys. -/
theorem toNat_ne {a b : Word} (h : b ≠ a) : b.toNat ≠ a.toNat := fun hn => h (BitVec.eq_of_toNat_eq hn)

/-- A raw write is read back. -/
@[simp] theorem ramByte_rawWrite_same (s : State) (a : Word) (v : Byte) : ramByte (rawWrite s a v) a = v := by
  simp [ramByte]

/-- A raw write leaves every other byte. -/
theorem ramByte_rawWrite_other (s : State) (a b : Word) (v : Byte) (h : b ≠ a) :
    ramByte (rawWrite s a v) b = ramByte s b := by
  simp [ramByte, Memory.get?_set_other _ _ _ _ (toNat_ne h)]

/-- A read changes no RAM. -/
@[simp] theorem ramByte_afterRead (s : State) (b a : Word) : ramByte (afterRead s b) a = ramByte s a :=
  ramByte_congr (by simp) (by simp) a

/-- A word read changes no RAM. -/
@[simp] theorem ramByte_afterReadWord (s : State) (b a : Word) : ramByte (afterReadWord s b) a = ramByte s a :=
  ramByte_congr (by simp) (by simp) a

/-- A pull changes no RAM. -/
@[simp] theorem ramByte_afterPull (s : State) (a : Word) : ramByte (afterPull s) a = ramByte s a :=
  ramByte_congr (by simp) (by simp) a

/-- A pointer read changes no RAM. -/
@[simp] theorem ramByte_afterPointer (s : State) (b a : Word) : ramByte (afterPointer s b) a = ramByte s a :=
  ramByte_congr (by simp) (by simp) a

/-- Pages 0 to 15 are RAM in every latch setting (R64, R65). -/
theorem classify_low (l : Latch) {a : Word} (h : (hi a).toNat ≤ 15) : classify l a = .ram := by
  simp [classify, classifyPage, h]

/-- The device port is never selected in pages 0 to 15. -/
theorem selectsPort_low (s : State) {a : Word} (h : (hi a).toNat ≤ 15) : selectsPort s a = false := by
  simp [selectsPort, classify_low _ h]

/-- The stack lies in page 1 (R23). -/
@[simp] theorem hi_stackAddr (sp : Byte) : hi (stackAddr sp) = 1#8 := hi_word _ _

/-- The device port is never selected on the stack page. -/
@[simp] theorem selectsPort_stack (s : State) (sp : Byte) : selectsPort s (stackAddr sp) = false :=
  selectsPort_low s (by simp)

/-- Different values of S address different bytes. -/
theorem stackAddr_injective {u v : Byte} (h : stackAddr u = stackAddr v) : u = v := by
  have := congrArg lo h
  simpa [stackAddr] using this

/-- No stack address is the control byte's. -/
@[simp] theorem stackAddr_ne_one (sp : Byte) : stackAddr sp ≠ 1#16 := fun h => by
  have := congrArg hi h
  rw [hi_stackAddr] at this
  exact absurd this (by decide)

/-- A read of a byte that the port does not answer reads its store and changes nothing. -/
theorem afterRead_of_not_port {s : State} {a : Word} (h : selectsPort s a = false) : afterRead s a = s := by
  simp [afterRead, h]

/-- A read in pages 0 to 15 reads RAM. -/
theorem peek_low (s : State) {a : Word} (h : (hi a).toNat ≤ 15) : peek s a = ramByte s a := by
  simp [peek, selectsPort_low s h, storeByte, classify_low _ h]

/-- A read on the stack page reads RAM. -/
@[simp] theorem peek_stack (s : State) (sp : Byte) : peek s (stackAddr sp) = ramByte s (stackAddr sp) :=
  peek_low s (by simp)

/-- A read on the stack page changes nothing. -/
@[simp] theorem afterRead_stack (s : State) (sp : Byte) : afterRead s (stackAddr sp) = s :=
  afterRead_of_not_port (by simp)

/-- The control byte's address is never the device port's. -/
@[simp] theorem selectsPort_one (s : State) : selectsPort s 1#16 = false := selectsPort_low s (by decide)

/-- Everything a bus write does to memory (R71). -/
theorem busWrite_stored (s : State) (ea : Word) (v : Byte) : Stored ea v s (busWrite s ea v) := by
  by_cases h : selectsPort s ea = true
  · have h1 : ea ≠ 1#16 := by rintro rfl; simp at h
    have e : busWrite s ea v = { s with portLog := s.portLog ++ [.write ea v] } := by simp [busWrite, h]
    rw [e]
    exact ⟨fun b _ => rfl, fun h' => by simp_all, fun _ => ⟨rfl, rfl⟩, by simp [h1]⟩
  · by_cases h1 : ea = 1#16
    · have e : busWrite s ea v = { rawWrite s ea v with latch := setLatch s.latch v } := by simp [busWrite, h1]
      rw [e]
      exact ⟨fun b hb => ramByte_rawWrite_other s ea b v hb, fun _ => ⟨ramByte_rawWrite_same s ea v, rfl⟩,
        fun h' => absurd h' h, by simp [h1]⟩
    · have e : busWrite s ea v = rawWrite s ea v := by simp [busWrite, h, h1]
      rw [e]
      exact ⟨fun b hb => ramByte_rawWrite_other s ea b v hb, fun _ => ⟨ramByte_rawWrite_same s ea v, rfl⟩,
        fun h' => absurd h' h, by simp [h1]⟩

/-- A push is a raw write on page 1 and a step of S (R28). -/
theorem push_eq (s : State) (v : Byte) : push s v = { rawWrite s (stackAddr s.sp) v with sp := s.sp - 1 } := by
  have e : busWrite s (stackAddr s.sp) v = rawWrite s (stackAddr s.sp) v := by simp [busWrite]
  simp only [push, e, rawWrite_sp]

/-- A push changes no latch bit. -/
@[simp] theorem push_latch (s : State) (v : Byte) : (push s v).latch = s.latch := by simp [push_eq]

/-- A push is never seen by the device port. -/
@[simp] theorem push_portLog (s : State) (v : Byte) : (push s v).portLog = s.portLog := by simp [push_eq]

/-- A pull is never seen by the device port. -/
@[simp] theorem afterPull_portLog (s : State) : (afterPull s).portLog = s.portLog := by simp [afterPull]

/-- The pushed byte is at the old S. -/
@[simp] theorem ramByte_push_same (s : State) (v : Byte) : ramByte (push s v) (stackAddr s.sp) = v := by
  rw [push_eq]; exact ramByte_rawWrite_same s (stackAddr s.sp) v

/-- A push leaves every other byte. -/
theorem ramByte_push_other (s : State) (v : Byte) {b : Word} (h : b ≠ stackAddr s.sp) :
    ramByte (push s v) b = ramByte s b := by
  rw [push_eq]; exact ramByte_rawWrite_other s (stackAddr s.sp) b v h

/-- A pull returns the byte above S. -/
theorem pulled_eq (s : State) : pulled s = ramByte s (stackAddr (s.sp + 1)) := by simp [pulled]

/-- A pull is a step of S. -/
theorem afterPull_eq (s : State) : afterPull s = { s with sp := s.sp + 1 } := by simp [afterPull]

/-- A pull after a push returns the byte pushed. -/
@[simp] theorem pulled_push (s : State) (v : Byte) : pulled (push s v) = v := by
  rw [pulled_eq, push_sp, BitVec.sub_add_cancel]
  exact ramByte_push_same s v

/-- A pull after a push restores S. -/
@[simp] theorem afterPull_push_sp (s : State) (v : Byte) : (afterPull (push s v)).sp = s.sp := by simp

/-- Three pushes in a row: return address, high byte first, then a copy of P (R30). -/
theorem stacked_frame (s : State) (ret : Word) (copy : Byte) :
    Stacked [(stackAddr s.sp, hi ret), (stackAddr (s.sp - 1), lo ret), (stackAddr (s.sp - 2), copy)] s
      (push (pushWord s ret) copy) := by
  have e1 : s.sp - 1 ≠ s.sp := by intro h; have := congrArg BitVec.toNat h; simp at this; omega
  have e2 : s.sp - 2 ≠ s.sp := by intro h; have := congrArg BitVec.toNat h; simp at this; omega
  have e3 : s.sp - 2 ≠ s.sp - 1 := by intro h; have := congrArg BitVec.toNat h; simp at this; omega
  have n1 : stackAddr (s.sp - 1) ≠ stackAddr s.sp := fun h => e1 (stackAddr_injective h)
  have n2 : stackAddr (s.sp - 2) ≠ stackAddr s.sp := fun h => e2 (stackAddr_injective h)
  have n3 : stackAddr (s.sp - 2) ≠ stackAddr (s.sp - 1) := fun h => e3 (stackAddr_injective h)
  have s1 : (push s (hi ret)).sp = s.sp - 1 := push_sp s _
  have s2 : (pushWord s ret).sp = s.sp - 2 := by
    rw [pushWord, push_sp, s1, BitVec.sub_sub]; rfl
  have a0 : ∀ b, b ≠ stackAddr (s.sp - 2) → ramByte (push (pushWord s ret) copy) b = ramByte (pushWord s ret) b :=
    fun b hb => ramByte_push_other _ _ (by rw [s2]; exact hb)
  have a1 : ∀ b, b ≠ stackAddr (s.sp - 1) → ramByte (pushWord s ret) b = ramByte (push s (hi ret)) b :=
    fun b hb => ramByte_push_other _ _ (by rw [s1]; exact hb)
  constructor
  · intro e he
    simp only [List.mem_cons, List.not_mem_nil, or_false] at he
    rcases he with rfl | rfl | rfl
    · show ramByte _ (stackAddr s.sp) = hi ret
      rw [a0 _ n2.symm, a1 _ n1.symm, ramByte_push_same]
    · show ramByte _ (stackAddr (s.sp - 1)) = lo ret
      rw [a0 _ n3.symm, pushWord, ← s1, ramByte_push_same]
    · show ramByte _ (stackAddr (s.sp - 2)) = copy
      rw [← s2, ramByte_push_same]
  · intro b hb
    simp only [List.map_cons, List.map_nil, List.mem_cons, List.not_mem_nil, or_false, not_or] at hb
    rw [a0 _ hb.2.2, a1 _ hb.2.1, ramByte_push_other _ _ hb.1]
  · simp [pushWord]
  · simp [pushWord]

/-- The invariant's memory part survives a raw write. -/
theorem memoriesWf_rawWrite {s : State} (a : Word) (v : Byte) (h : MemoriesWf s) : MemoriesWf (rawWrite s a v) :=
  ⟨Memory.wf_set v a.isLt h.1, h.2⟩

/-- The invariant's memory part survives a bus write. -/
theorem memoriesWf_busWrite {s : State} (a : Word) (v : Byte) (h : MemoriesWf s) : MemoriesWf (busWrite s a v) := by
  unfold busWrite
  split
  · exact h
  · split
    · exact memoriesWf_rawWrite a v h
    · exact memoriesWf_rawWrite a v h

/-- The invariant's memory part looks at RAM and the setup alone. -/
theorem memoriesWf_congr {s t : State} (hr : t.ram = s.ram) (hs : t.setup = s.setup) (h : MemoriesWf s) :
    MemoriesWf t := by
  simpa [MemoriesWf, hr, hs] using h

end Sys2Proof.Machine
end

