-- ==== Sys2Proof/Laws/Resolve.lean ====
section
/-! SUPPORT. What the resolver and the operand read can do: they return an address and touch the device port's log, nothing
else (R140: "It writes no register and no memory"). -/

namespace Sys2Proof.Machine

@[simp] theorem resolve_a (o : Operand) (s : State) : (resolve o s).state.a = s.a := by cases o <;> simp [resolve, Resolved.direct, Resolved.indexed]
@[simp] theorem resolve_x (o : Operand) (s : State) : (resolve o s).state.x = s.x := by cases o <;> simp [resolve, Resolved.direct, Resolved.indexed]
@[simp] theorem resolve_y (o : Operand) (s : State) : (resolve o s).state.y = s.y := by cases o <;> simp [resolve, Resolved.direct, Resolved.indexed]
@[simp] theorem resolve_sp (o : Operand) (s : State) : (resolve o s).state.sp = s.sp := by cases o <;> simp [resolve, Resolved.direct, Resolved.indexed]
@[simp] theorem resolve_p (o : Operand) (s : State) : (resolve o s).state.p = s.p := by cases o <;> simp [resolve, Resolved.direct, Resolved.indexed]
@[simp] theorem resolve_pc (o : Operand) (s : State) : (resolve o s).state.pc = s.pc := by cases o <;> simp [resolve, Resolved.direct, Resolved.indexed]
@[simp] theorem resolve_latch (o : Operand) (s : State) : (resolve o s).state.latch = s.latch := by cases o <;> simp [resolve, Resolved.direct, Resolved.indexed]
@[simp] theorem resolve_ram (o : Operand) (s : State) : (resolve o s).state.ram = s.ram := by cases o <;> simp [resolve, Resolved.direct, Resolved.indexed]
@[simp] theorem resolve_setup (o : Operand) (s : State) : (resolve o s).state.setup = s.setup := by cases o <;> simp [resolve, Resolved.direct, Resolved.indexed]
@[simp] theorem resolve_halted (o : Operand) (s : State) : (resolve o s).state.halted = s.halted := by cases o <;> simp [resolve, Resolved.direct, Resolved.indexed]
@[simp] theorem resolve_cycles (o : Operand) (s : State) : (resolve o s).state.cycles = s.cycles := by cases o <;> simp [resolve, Resolved.direct, Resolved.indexed]
@[simp] theorem resolve_report (o : Operand) (s : State) : (resolve o s).state.report = s.report := by cases o <;> simp [resolve, Resolved.direct, Resolved.indexed]
@[simp] theorem resolve_env (o : Operand) (s : State) : (resolve o s).state.env = s.env := by cases o <;> simp [resolve, Resolved.direct, Resolved.indexed]
@[simp] theorem resolve_epoch (o : Operand) (s : State) : (resolve o s).state.epoch = s.epoch := by cases o <;> simp [resolve, Resolved.direct, Resolved.indexed]
@[simp] theorem resolve_draws (o : Operand) (s : State) : (resolve o s).state.draws = s.draws := by cases o <;> simp [resolve, Resolved.direct, Resolved.indexed]
@[simp] theorem afterOperand_a (o : Operand) (r : Resolved) : (afterOperand o r).a = r.state.a := by cases o <;> simp [afterOperand]
@[simp] theorem afterOperand_x (o : Operand) (r : Resolved) : (afterOperand o r).x = r.state.x := by cases o <;> simp [afterOperand]
@[simp] theorem afterOperand_y (o : Operand) (r : Resolved) : (afterOperand o r).y = r.state.y := by cases o <;> simp [afterOperand]
@[simp] theorem afterOperand_sp (o : Operand) (r : Resolved) : (afterOperand o r).sp = r.state.sp := by cases o <;> simp [afterOperand]
@[simp] theorem afterOperand_p (o : Operand) (r : Resolved) : (afterOperand o r).p = r.state.p := by cases o <;> simp [afterOperand]
@[simp] theorem afterOperand_pc (o : Operand) (r : Resolved) : (afterOperand o r).pc = r.state.pc := by cases o <;> simp [afterOperand]
@[simp] theorem afterOperand_latch (o : Operand) (r : Resolved) : (afterOperand o r).latch = r.state.latch := by cases o <;> simp [afterOperand]
@[simp] theorem afterOperand_ram (o : Operand) (r : Resolved) : (afterOperand o r).ram = r.state.ram := by cases o <;> simp [afterOperand]
@[simp] theorem afterOperand_setup (o : Operand) (r : Resolved) : (afterOperand o r).setup = r.state.setup := by cases o <;> simp [afterOperand]
@[simp] theorem afterOperand_halted (o : Operand) (r : Resolved) : (afterOperand o r).halted = r.state.halted := by cases o <;> simp [afterOperand]
@[simp] theorem afterOperand_cycles (o : Operand) (r : Resolved) : (afterOperand o r).cycles = r.state.cycles := by cases o <;> simp [afterOperand]
@[simp] theorem afterOperand_report (o : Operand) (r : Resolved) : (afterOperand o r).report = r.state.report := by cases o <;> simp [afterOperand]
@[simp] theorem afterOperand_env (o : Operand) (r : Resolved) : (afterOperand o r).env = r.state.env := by cases o <;> simp [afterOperand]
@[simp] theorem afterOperand_epoch (o : Operand) (r : Resolved) : (afterOperand o r).epoch = r.state.epoch := by cases o <;> simp [afterOperand]
@[simp] theorem afterOperand_draws (o : Operand) (r : Resolved) : (afterOperand o r).draws = r.state.draws := by cases o <;> simp [afterOperand]

/-- Resolving an operand changes no RAM. -/
@[simp] theorem ramByte_resolve (o : Operand) (s : State) (a : Word) : ramByte (resolve o s).state a = ramByte s a :=
  ramByte_congr (by simp) (by simp) a

/-- Reading the operand changes no RAM. -/
@[simp] theorem ramByte_afterOperand (o : Operand) (r : Resolved) (a : Word) :
    ramByte (afterOperand o r) a = ramByte r.state a :=
  ramByte_congr (by simp) (by simp) a

/-- Only accumulator mode has kind `acc`. -/
theorem resolve_kind_acc (o : Operand) (s : State) : (resolve o s).kind = .acc ↔ o = .acc := by
  cases o <;> simp [resolve, Resolved.direct, Resolved.indexed]

/-- For an operand that is no immediate the operand byte is a bus read of EA. -/
theorem operandByte_eq_peek {o : Operand} (h : ∀ v, o ≠ .imm v) (r : Resolved) : operandByte o r = peek r.state r.ea := by
  cases o <;> simp_all [operandByte]

/-- For an operand that is no immediate the operand read is a bus read of EA. -/
theorem afterOperand_eq_afterRead {o : Operand} (h : ∀ v, o ≠ .imm v) (r : Resolved) :
    afterOperand o r = afterRead r.state r.ea := by
  cases o <;> simp_all [afterOperand]

/-- The read class (R157), in the claims' words. -/
theorem readOp_eq (i : Instr) (f : Byte → State → State) (s : State) :
    readOp i f s = .next (retire i (crosses i s) (f (operandOf i s) (readState i s))) := rfl

/-- The write class (R157), in the claims' words. -/
theorem writeOp_eq (i : Instr) (v : State → Byte) (s : State) :
    writeOp i v s =
      .next (retire i (crosses i s) (busWrite (resolvedState i s) (addressOf i s) (v (resolvedState i s)))) := rfl

/-- The read-modify-write class in accumulator mode (R240). -/
theorem modifyOp_acc {i : Instr} (h : i.operand = .acc) (new : Byte → Byte → Byte) (after : Byte → Byte → State → State)
    (s : State) :
    modifyOp i new after s = .next (retire i false (after s.a (new s.a s.p) { s with a := new s.a s.p })) := by
  simp [modifyOp, h, resolve, Resolved.direct]

/-- The read-modify-write class on memory (R240). -/
theorem modifyOp_mem {i : Instr} (ha : i.operand ≠ .acc) (hi : ∀ v, i.operand ≠ .imm v) (new : Byte → Byte → Byte)
    (after : Byte → Byte → State → State) (s : State) :
    modifyOp i new after s =
      .next (retire i (crosses i s) (after (operandOf i s) (new (operandOf i s) s.p)
        (busWrite (readState i s) (addressOf i s) (new (operandOf i s) s.p)))) := by
  have hk : (resolve i.operand s).kind ≠ .acc := fun h => ha ((resolve_kind_acc _ _).1 h)
  unfold modifyOp
  dsimp only
  split
  · next h => exact absurd h hk
  · simp [operandOf, readState, addressOf, crosses, operandByte_eq_peek hi, afterOperand_eq_afterRead hi]

/-- A read does not look at S and leaves it. -/
theorem afterRead_withSp (s : State) (v : Byte) (a : Word) :
    afterRead { s with sp := v } a = { afterRead s a with sp := v } := by
  have h : selectsPort { s with sp := v } a = selectsPort s a := rfl
  unfold afterRead
  rw [h]
  cases selectsPort s a <;> rfl

/-- A read's answer does not depend on S. -/
theorem peek_withSp (s : State) (v : Byte) (a : Word) : peek { s with sp := v } a = peek s a := rfl

/-- The resolver does not look at S and leaves it (R140): TAS resolves its operand after it has written S (R311). -/
theorem resolve_withSp (o : Operand) (s : State) (v : Byte) :
    resolve o { s with sp := v } = { resolve o s with state := { (resolve o s).state with sp := v } } := by
  cases o <;>
    simp only [resolve, Resolved.direct, Resolved.indexed, pointerWord, afterPointer, afterRead_withSp, peek_withSp]

end Sys2Proof.Machine
end

