-- ==== Sys2Proof/Laws/Exec.lean ====
section
/-! SUPPORT. The dispatch by mnemonic: what an instruction does is what its mnemonic's operation does to its row. Every claim
about an instruction starts here. -/

namespace Sys2Proof.Machine

/-- The operation of a mnemonic. -/
def meaning : Mnemonic → Instr → State → Result
  | .brk => opBrk
  | .ora => opOra
  | .jam => opJam
  | .slo => opSlo
  | .nop => opNop
  | .asl => opAsl
  | .php => opPhp
  | .anc => opAnc
  | .bpl => opBpl
  | .clc => opClc
  | .jsr => opJsr
  | .and => opAnd
  | .rla => opRla
  | .bit => opBit
  | .rol => opRol
  | .plp => opPlp
  | .bmi => opBmi
  | .sec => opSec
  | .rti => opRti
  | .eor => opEor
  | .sre => opSre
  | .lsr => opLsr
  | .pha => opPha
  | .alr => opAlr
  | .jmp => opJmp
  | .bvc => opBvc
  | .cli => opCli
  | .rts => opRts
  | .adc => opAdc
  | .rra => opRra
  | .ror => opRor
  | .pla => opPla
  | .arr => opArr
  | .bvs => opBvs
  | .sei => opSei
  | .sta => opSta
  | .sax => opSax
  | .sty => opSty
  | .stx => opStx
  | .dey => opDey
  | .txa => opTxa
  | .ane => opAne
  | .bcc => opBcc
  | .sha => opSha
  | .tya => opTya
  | .txs => opTxs
  | .tas => opTas
  | .shy => opShy
  | .shx => opShx
  | .ldy => opLdy
  | .lda => opLda
  | .ldx => opLdx
  | .lax => opLax
  | .tay => opTay
  | .tax => opTax
  | .lxa => opLxa
  | .bcs => opBcs
  | .clv => opClv
  | .tsx => opTsx
  | .las => opLas
  | .cpy => opCpy
  | .cmp => opCmp
  | .dcp => opDcp
  | .dec => opDec
  | .iny => opIny
  | .dex => opDex
  | .sbx => opSbx
  | .bne => opBne
  | .cld => opCld
  | .cpx => opCpx
  | .sbc => opSbc
  | .isc => opIsc
  | .inc => opInc
  | .inx => opInx
  | .beq => opBeq
  | .sed => opSed

/-- Each arm of exec is its mnemonic's operation on its own row. -/
theorem exec_eq_meaning (i : Instr) (s : State) : exec i s = meaning i.mnemonic i s := by
  cases i <;> rfl

/-- The same, for an instruction whose mnemonic is known. -/
theorem exec_of_mnemonic {i : Instr} {m : Mnemonic} (h : i.mnemonic = m) (s : State) : exec i s = meaning m i s := by
  rw [exec_eq_meaning, h]

/-- A mnemonic's modes: no read-modify-write mnemonic has an immediate form. -/
theorem modify_not_imm {i : Instr} (h : i.mnemonic ∈ [.asl, .lsr, .rol, .ror, .inc, .dec, .slo, .rla, .sre, .rra, .dcp, .isc]) :
    ∀ v, i.operand ≠ .imm v := by
  intro v hv
  cases i <;> first | (cases hv; done) | simp [Instr.mnemonic, Instr.row] at h

end Sys2Proof.Machine
end

