-- ==== Sys2Proof/Laws/Flags.lean ====
section
/-! SUPPORT. Laws of the bits of P: reading one flag after writing another, and what each flag computation leaves alone. -/

namespace Sys2Proof.Machine

/-- Reading a flag after one flag is written. -/
@[simp] theorem getFlag_putFlag (f g : Flag) (b : Bool) (p : Byte) :
    getFlag f (putFlag g b p) = if f = g then b else getFlag f p := by
  cases f <;> cases g <;> cases b <;> simp [getFlag, putFlag, Flag.mask, Flag.index]

/-- Reading a flag of a bitwise or. -/
@[simp] theorem getFlag_or (f : Flag) (p q : Byte) : getFlag f (p ||| q) = (getFlag f p || getFlag f q) := by
  simp [getFlag]

/-- Reading a flag of a bitwise and. -/
@[simp] theorem getFlag_and (f : Flag) (p q : Byte) : getFlag f (p &&& q) = (getFlag f p && getFlag f q) := by
  simp [getFlag]

/-- Reading a flag of a complement. -/
@[simp] theorem getFlag_not (f : Flag) (p : Byte) : getFlag f (~~~ p) = !getFlag f p := by
  cases f <;> simp [getFlag, Flag.index]

/-- A mask holds its own flag and no other. -/
@[simp] theorem getFlag_mask (f g : Flag) : getFlag f g.mask = decide (f = g) := by
  cases f <;> cases g <;> decide

/-- P loaded from the stack has P.U = 1 (R26). -/
@[simp] theorem getFlag_u_restoredP (v : Byte) : getFlag .u (restoredP v) = true := by simp [restoredP]

/-- P loaded from the stack has every flag but U as pulled (R193). -/
theorem getFlag_restoredP (f : Flag) (v : Byte) (h : f ≠ .u) : getFlag f (restoredP v) = getFlag f v := by
  simp [restoredP, h]

/-- A flag of P after SetNZ (R11). -/
@[simp] theorem getFlag_putNZ (f : Flag) (v p : Byte) :
    getFlag f (putNZ v p) = if f = .z then v == 0 else if f = .n then v.getLsbD 7 else getFlag f p := by
  simp [putNZ]

/-- A flag of P after an addition or subtraction. -/
@[simp] theorem getFlag_putAlu (f : Flag) (r : AluResult) (p : Byte) :
    getFlag f (putAlu r p) =
      if f = .c then r.c else if f = .z then r.z else if f = .v then r.v else if f = .n then r.n else getFlag f p := by
  simp [putAlu]

/-- A flag of P after a compare. -/
@[simp] theorem getFlag_putCompare (f : Flag) (r m p : Byte) :
    getFlag f (putCompare r m p) =
      if f = .c then decide (m.toNat ≤ r.toNat)
      else if f = .z then r - m == 0 else if f = .n then (r - m).getLsbD 7 else getFlag f p := by
  simp [putCompare]

/-- A flag of P after a left shift or rotate. -/
@[simp] theorem getFlag_putLeft (f : Flag) (v new p : Byte) :
    getFlag f (putLeft v new p) =
      if f = .z then new == 0 else if f = .n then new.getLsbD 7 else if f = .c then v.getLsbD 7 else getFlag f p := by
  simp [putLeft]

/-- A flag of P after a right shift or rotate. -/
@[simp] theorem getFlag_putRight (f : Flag) (v new p : Byte) :
    getFlag f (putRight v new p) =
      if f = .z then new == 0 else if f = .n then new.getLsbD 7 else if f = .c then v.getLsbD 0 else getFlag f p := by
  simp [putRight]

/-- Two bytes with the same flags are equal. -/
theorem eq_of_getFlag {p q : Byte} (h : ∀ f, getFlag f p = getFlag f q) : p = q := by
  refine BitVec.eq_of_getLsbD_eq fun k hk => ?_
  match k, hk with
  | 0, _ => exact h .c
  | 1, _ => exact h .z
  | 2, _ => exact h .i
  | 3, _ => exact h .d
  | 4, _ => exact h .b
  | 5, _ => exact h .u
  | 6, _ => exact h .v
  | 7, _ => exact h .n

/-- A flag that ARR does not write is as it was (R301). -/
theorem getFlag_arrByMode (f : Flag) (t p : Byte) (hn : f ≠ .n) (hv : f ≠ .v) (hz : f ≠ .z) (hc : f ≠ .c) :
    getFlag f (arrByMode t p).2 = getFlag f p := by
  unfold arrByMode arrDecimal arrBinary
  split
  · dsimp only
    split <;> simp [hn, hv, hz, hc]
  · simp [hn, hv, hz, hc]

end Sys2Proof.Machine
end

