-- ==== Sys2Proof/Laws/Effects.lean ====
section
/-! SUPPORT. The effects of the access classes, said once: what reads, writes, read-modify-writes, implied instructions and control
transfers leave as it was. A claim about an instruction needs beside these only the values it names. -/

namespace Sys2Proof.Machine

/-- Every instruction has an encoding its rule lists. -/
theorem encoded (i : Instr) : Encoded i := by
  cases i <;> simp [Encoded, formOf, formsOf, Instr.operand, Instr.row, Instr.opcode, Instr.mnemonic, tagOf, Instr.size,
    Operand.size]

/-- The end of an instruction leaves every byte register. -/
@[simp] theorem retire_reg (i : Instr) (c : Bool) (u : State) (r : Reg) : (retire i c u).reg r = u.reg r := by cases r <;> rfl

/-- The count of a control transfer leaves every byte register. -/
@[simp] theorem account_reg (i : Instr) (n : Nat) (u : State) (r : Reg) : (account i n u).reg r = u.reg r := by cases r <;> rfl

/-- The end of an instruction moves PC past it and counts its cycles. -/
theorem retired_retire {i : Instr} {c : Bool} {s u : State} (hp : u.pc = s.pc) (hc : u.cycles = s.cycles)
    (hs : u.setup = s.setup) : Retired i c s (retire i c u) :=
  ⟨by simp [retire, account, hp], by simp [Costs, retire, account, hc, hs]⟩

/-- What an instruction's effect proper may not touch, whatever its class. -/
structure Untouched (regs : List Reg) (flags : List Flag) (s u : State) : Prop where
  regs : ∀ r, r ∉ regs → u.reg r = s.reg r
  flags : ∀ f, f ∉ flags → getFlag f u.p = getFlag f s.p
  pc : u.pc = s.pc
  cycles : u.cycles = s.cycles
  setup : u.setup = s.setup
  halted : u.halted = s.halted
  env : u.env = s.env
  epoch : u.epoch = s.epoch
  draws : u.draws = s.draws

/-- The frame of the registers and flags survives the end of the instruction. -/
theorem Untouched.kept {regs : List Reg} {flags : List Flag} {s u : State} (h : Untouched regs flags s u) (i : Instr)
    (c : Bool) : Kept regs flags s (retire i c u) :=
  ⟨fun r hr => by simpa using h.regs r hr, h.flags, h.setup, h.halted, h.env, h.epoch⟩

/-- Implied and accumulator instructions. -/
theorem implied_effect {i : Instr} {regs : List Reg} {flags : List Flag} {s u : State} (h : Untouched regs flags s u)
    (hr : u.ram = s.ram) (hl : u.latch = s.latch) (hg : u.portLog = s.portLog) :
    ImpliedEffect i regs flags s (retire i false u) :=
  ⟨encoded i, h.kept i _, ⟨hl, fun a => ramByte_congr hr h.epoch a⟩, hg, h.draws, retired_retire h.pc h.cycles h.setup⟩

/-- The read class. -/
theorem read_effect {i : Instr} {regs : List Reg} {flags : List Flag} {s u : State} (h : Untouched regs flags s u)
    (hr : u.ram = s.ram) (hl : u.latch = s.latch) (hg : u.portLog = (readState i s).portLog) :
    ReadEffect i regs flags s (retire i (crosses i s) u) :=
  ⟨encoded i, h.kept i _, ⟨hl, fun a => ramByte_congr hr h.epoch a⟩, hg, h.draws, retired_retire h.pc h.cycles h.setup⟩

/-- What a write through the bus did is not changed by what the instruction does after it to registers and flags. -/
theorem Stored.congr {ea : Word} {v : Byte} {s t u : State} (h : Stored ea v s t) (hr : u.ram = t.ram) (he : u.epoch = t.epoch)
    (hl : u.latch = t.latch) (hg : u.portLog = t.portLog) : Stored ea v s u := by
  refine ⟨fun b hb => ?_, fun hp => ?_, fun hp => ?_, ?_⟩
  · rw [ramByte_congr hr he]; exact h.elsewhere b hb
  · rw [ramByte_congr hr he, hg]; exact h.toRam hp
  · rw [ramByte_congr hr he, hg]; exact h.toPort hp
  · rw [hl]; exact h.latch

/-- The write class. -/
theorem write_effect (i : Instr) (v : State → Byte) (s : State) (hv : v (resolvedState i s) = v s) :
    ∃ t, writeOp i v s = .next t ∧ WriteEffect i (v s) s t := by
  refine ⟨_, writeOp_eq _ _ _, ?_⟩
  rw [hv]
  have h : Untouched [] [] s (busWrite (resolvedState i s) (addressOf i s) (v s)) := by
    constructor <;> first | (intro r _; cases r <;> simp [State.reg, resolvedState]) | simp [resolvedState]
  exact ⟨encoded i, h.kept i _, (busWrite_stored _ _ _).congr rfl rfl rfl rfl, h.draws, retired_retire h.pc h.cycles h.setup⟩

/-- The read-modify-write class on memory; `u` is the state after the write and the accumulator operation. -/
theorem modify_effect {i : Instr} {new : Byte} {regs : List Reg} {flags : List Flag} {s u : State}
    (h : Untouched regs flags s u) (hw : u.ram = (busWrite (readState i s) (addressOf i s) new).ram)
    (hl : u.latch = (busWrite (readState i s) (addressOf i s) new).latch)
    (hg : u.portLog = (busWrite (readState i s) (addressOf i s) new).portLog) :
    ModifyEffect i new regs flags s (retire i (crosses i s) u) :=
  ⟨encoded i, h.kept i _,
    (busWrite_stored _ _ _).congr hw (by simp [retire, account, h.epoch, readState]) hl hg,
    h.draws, retired_retire h.pc h.cycles h.setup⟩

/-- What was stacked is not changed by what the instruction does after it to registers and flags. -/
theorem Stacked.congr {bytes : List (Word × Byte)} {s s' t u : State} (h : Stacked bytes s t) (hr : u.ram = t.ram)
    (he : u.epoch = t.epoch) (hl : u.latch = t.latch) (hg : u.portLog = t.portLog) (hr' : s'.ram = s.ram)
    (he' : s'.epoch = s.epoch) (hl' : s'.latch = s.latch) (hg' : s'.portLog = s.portLog) : Stacked bytes s' u := by
  refine ⟨fun e h1 => ?_, fun b hb => ?_, ?_, ?_⟩
  · rw [ramByte_congr hr he]; exact h.pushed e h1
  · rw [ramByte_congr hr he, ramByte_congr hr' he']; exact h.elsewhere b hb
  · rw [hl, hl', h.latch]
  · rw [hg, hg', h.portLog]

/-- Stacking nothing is leaving memory, the latch and the device port alone. -/
theorem stacked_nil {s t : State} (hr : t.ram = s.ram) (he : t.epoch = s.epoch) (hl : t.latch = s.latch)
    (hg : t.portLog = s.portLog) : Stacked [] s t :=
  ⟨by simp, fun b _ => ramByte_congr hr he b, hl, hg⟩

/-- Pulling a word reads the two bytes above S (R30). -/
theorem pulledWord_eq (s : State) :
    pulledWord s = word (ramByte s (stackAddr (s.sp + 2))) (ramByte s (stackAddr (s.sp + 1))) := by
  rw [pulledWord, pulled_eq, pulled_eq, afterPull_sp, ramByte_afterPull, BitVec.add_assoc]; rfl

/-- Pulling a word moves S by two. -/
theorem afterPullWord_eq (s : State) : afterPullWord s = { s with sp := s.sp + 2 } := by
  simp [afterPullWord, afterPull_eq, BitVec.add_assoc]

end Sys2Proof.Machine
end

