-- ==== Sys2Proof/Laws/Exceptions.lean ====
section
/-! SUPPORT. Taking an exception and returning from one: everything the two shared operations can do, said once. -/

namespace Sys2Proof.Machine

/-- The device port is never selected from page 224 up (R64). -/
theorem selectsPort_high (s : State) {a : Word} (h : 224 ≤ (hi a).toNat) : selectsPort s a = false := by
  have h1 : ¬ (hi a).toNat ≤ 15 := by omega
  have h2 : ¬ (hi a).toNat ≤ 127 := by omega
  have h3 : ¬ (hi a).toNat ≤ 159 := by omega
  have h4 : ¬ (hi a).toNat ≤ 191 := by omega
  have h5 : ¬ (hi a).toNat ≤ 207 := by omega
  have h6 : ¬ (hi a).toNat ≤ 223 := by omega
  have : classify s.latch a ≠ .ioDevices := by
    simp only [classify, classifyPage, if_neg h1, if_neg h2, if_neg h3, if_neg h4, if_neg h5, if_neg h6]
    split <;> (try split) <;> simp
  simp [selectsPort, this]

/-- A read's answer depends on the latch, the setup, the byte of RAM and what the port has seen. -/
theorem peek_congr {s t : State} {a : Word} (hl : t.latch = s.latch) (hs : t.setup = s.setup)
    (hr : ramByte t a = ramByte s a) (hg : t.portLog = s.portLog) : peek t a = peek s a := by
  simp [peek, selectsPort, storeByte, hl, hs, hr, hg]

/-- The pushes of an exception: the three bytes, S three lower, nothing else. -/
theorem pushes_eq (s : State) (ret : Word) (copy : Byte) :
    ∃ m, push (pushWord s ret) copy = { s with ram := m, sp := s.sp - 3 } := by
  refine ⟨(push (pushWord s ret) copy).ram, ?_⟩
  simp only [pushWord, push_eq, rawWrite, BitVec.sub_sub]
  rfl

/-- Taking an exception (R342): the frame on the stack, S three lower, the given flags set in P, PC the word at the vector, and no
other element of state. -/
theorem takeException_eq (s : State) (ret : Word) (copy flags : Byte) {vector : Word} (hv : 224 ≤ (hi vector).toNat)
    (hv1 : 224 ≤ (hi (vector + 1)).toNat) :
    ∃ m, takeException s ret copy flags vector =
        { s with ram := m, sp := s.sp - 3, p := s.p ||| flags, pc := word (peek s (vector + 1)) (peek s vector) } ∧
      Stacked [(stackAddr s.sp, hi ret), (stackAddr (s.sp - 1), lo ret), (stackAddr (s.sp - 2), copy)] s
        (takeException s ret copy flags vector) := by
  obtain ⟨m, hm⟩ := pushes_eq s ret copy
  have hst := stacked_frame s ret copy
  rw [hm] at hst
  have off : ∀ a : Word, 224 ≤ (hi a).toNat →
      a ∉ ([(stackAddr s.sp, hi ret), (stackAddr (s.sp - 1), lo ret), (stackAddr (s.sp - 2), copy)].map Prod.fst) := by
    intro a ha hmem
    simp only [List.map_cons, List.map_nil, List.mem_cons, List.not_mem_nil, or_false] at hmem
    rcases hmem with rfl | rfl | rfl <;> simp at ha
  have pk : ∀ a : Word, 224 ≤ (hi a).toNat →
      peek { s with ram := m, sp := s.sp - 3, p := s.p ||| flags } a = peek s a := fun a ha =>
    peek_congr rfl rfl (hst.elsewhere a (off a ha)) rfl
  have key : takeException s ret copy flags vector =
      { s with ram := m, sp := s.sp - 3, p := s.p ||| flags, pc := word (peek s (vector + 1)) (peek s vector) } := by
    unfold takeException
    rw [hm]
    dsimp only
    rw [peekWord, afterReadWord, afterRead_of_not_port (selectsPort_high _ hv), afterRead_of_not_port (selectsPort_high _ hv1),
      pk _ hv, pk _ hv1]
  refine ⟨m, key, ?_⟩
  rw [key]
  exact hst.congr rfl rfl rfl rfl rfl rfl rfl rfl

/-- Returning from an exception (R253): P, PC low and PC high from the stack, S three higher, and no other element of state. -/
theorem returnFromException_eq (s : State) :
    returnFromException s =
      { s with
        sp := s.sp + 3
        p := restoredP (ramByte s (stackAddr (s.sp + 1)))
        pc := word (ramByte s (stackAddr (s.sp + 3))) (ramByte s (stackAddr (s.sp + 2))) } := by
  simp only [returnFromException, afterPullWord_eq, afterPull_eq, pulledWord_eq, pulled_eq, BitVec.add_assoc]
  rfl

end Sys2Proof.Machine
end

