-- ==== Sys2Proof/Laws/PerInstr.lean ====
section
/-! SUPPORT. Facts about every instruction as a term, one lemma per constructor. -/


namespace Sys2Proof

/-- The instruction that an opcode-map entry makes of operand bytes, when their number fits. -/
def Template.rebuild : Template → List Byte → Option Instr
  | .one i, [] => some i
  | .two f, [b] => some (f b)
  | .three f, [l, h] => some (f (word h l))
  | _, _ => none

/-- The opcode map's entry for an instruction's opcode rebuilds the instruction from its operand bytes: the rows and the map
agree (R116, R123). -/
def Laws.FetchForm.Statement (i : Instr) : Prop := (template i.opcode).rebuild i.operand.bytes = some i

namespace Laws

/-- A one-byte instruction from its opcode's entry. -/
theorem fetchForm_one {i : Instr} (op : Byte) (ho : i.opcode = op) (hb : i.operand.bytes = []) (ht : template op = .one i) :
    FetchForm.Statement i := by
  simp [FetchForm.Statement, ho, hb, ht, Template.rebuild]

/-- A two-byte instruction from its opcode's entry. -/
theorem fetchForm_two {i : Instr} {f : Byte → Instr} {b : Byte} (op : Byte) (ho : i.opcode = op)
    (hb : i.operand.bytes = [b]) (ht : template op = .two f) (hf : f b = i) : FetchForm.Statement i := by
  simp [FetchForm.Statement, ho, hb, ht, hf, Template.rebuild]

/-- A three-byte instruction from its opcode's entry. -/
theorem fetchForm_three {i : Instr} {f : Word → Instr} {w : Word} (op : Byte) (ho : i.opcode = op)
    (hb : i.operand.bytes = [lo w, hi w]) (ht : template op = .three f) (hf : f w = i) : FetchForm.Statement i := by
  simp [FetchForm.Statement, ho, hb, ht, hf, Template.rebuild]

open FetchForm

theorem FetchForm.brk : Statement .brk := fetchForm_one 0x00 rfl rfl rfl
theorem FetchForm.oraIzx (z : Byte) : Statement (.oraIzx z) := fetchForm_two 0x01 rfl rfl rfl rfl
theorem FetchForm.jam02 : Statement .jam02 := fetchForm_one 0x02 rfl rfl rfl
theorem FetchForm.sloIzx (z : Byte) : Statement (.sloIzx z) := fetchForm_two 0x03 rfl rfl rfl rfl
theorem FetchForm.nopZp04 (z : Byte) : Statement (.nopZp04 z) := fetchForm_two 0x04 rfl rfl rfl rfl
theorem FetchForm.oraZp (z : Byte) : Statement (.oraZp z) := fetchForm_two 0x05 rfl rfl rfl rfl
theorem FetchForm.aslZp (z : Byte) : Statement (.aslZp z) := fetchForm_two 0x06 rfl rfl rfl rfl
theorem FetchForm.sloZp (z : Byte) : Statement (.sloZp z) := fetchForm_two 0x07 rfl rfl rfl rfl
theorem FetchForm.php : Statement .php := fetchForm_one 0x08 rfl rfl rfl
theorem FetchForm.oraImm (v : Byte) : Statement (.oraImm v) := fetchForm_two 0x09 rfl rfl rfl rfl
theorem FetchForm.aslAcc : Statement .aslAcc := fetchForm_one 0x0A rfl rfl rfl
theorem FetchForm.ancImm0B (v : Byte) : Statement (.ancImm0B v) := fetchForm_two 0x0B rfl rfl rfl rfl
theorem FetchForm.nopAbs (addr : Word) : Statement (.nopAbs addr) := fetchForm_three 0x0C rfl rfl rfl rfl
theorem FetchForm.oraAbs (addr : Word) : Statement (.oraAbs addr) := fetchForm_three 0x0D rfl rfl rfl rfl
theorem FetchForm.aslAbs (addr : Word) : Statement (.aslAbs addr) := fetchForm_three 0x0E rfl rfl rfl rfl
theorem FetchForm.sloAbs (addr : Word) : Statement (.sloAbs addr) := fetchForm_three 0x0F rfl rfl rfl rfl
theorem FetchForm.bpl (off : Byte) : Statement (.bpl off) := fetchForm_two 0x10 rfl rfl rfl rfl
theorem FetchForm.oraIzy (z : Byte) : Statement (.oraIzy z) := fetchForm_two 0x11 rfl rfl rfl rfl
theorem FetchForm.jam12 : Statement .jam12 := fetchForm_one 0x12 rfl rfl rfl
theorem FetchForm.sloIzy (z : Byte) : Statement (.sloIzy z) := fetchForm_two 0x13 rfl rfl rfl rfl
theorem FetchForm.nopZpx14 (z : Byte) : Statement (.nopZpx14 z) := fetchForm_two 0x14 rfl rfl rfl rfl
theorem FetchForm.oraZpx (z : Byte) : Statement (.oraZpx z) := fetchForm_two 0x15 rfl rfl rfl rfl
theorem FetchForm.aslZpx (z : Byte) : Statement (.aslZpx z) := fetchForm_two 0x16 rfl rfl rfl rfl
theorem FetchForm.sloZpx (z : Byte) : Statement (.sloZpx z) := fetchForm_two 0x17 rfl rfl rfl rfl
theorem FetchForm.clc : Statement .clc := fetchForm_one 0x18 rfl rfl rfl
theorem FetchForm.oraAby (addr : Word) : Statement (.oraAby addr) := fetchForm_three 0x19 rfl rfl rfl rfl
theorem FetchForm.nopImp1A : Statement .nopImp1A := fetchForm_one 0x1A rfl rfl rfl
theorem FetchForm.sloAby (addr : Word) : Statement (.sloAby addr) := fetchForm_three 0x1B rfl rfl rfl rfl
theorem FetchForm.nopAbx1C (addr : Word) : Statement (.nopAbx1C addr) := fetchForm_three 0x1C rfl rfl rfl rfl
theorem FetchForm.oraAbx (addr : Word) : Statement (.oraAbx addr) := fetchForm_three 0x1D rfl rfl rfl rfl
theorem FetchForm.aslAbx (addr : Word) : Statement (.aslAbx addr) := fetchForm_three 0x1E rfl rfl rfl rfl
theorem FetchForm.sloAbx (addr : Word) : Statement (.sloAbx addr) := fetchForm_three 0x1F rfl rfl rfl rfl
theorem FetchForm.jsr (addr : Word) : Statement (.jsr addr) := fetchForm_three 0x20 rfl rfl rfl rfl
theorem FetchForm.andIzx (z : Byte) : Statement (.andIzx z) := fetchForm_two 0x21 rfl rfl rfl rfl
theorem FetchForm.jam22 : Statement .jam22 := fetchForm_one 0x22 rfl rfl rfl
theorem FetchForm.rlaIzx (z : Byte) : Statement (.rlaIzx z) := fetchForm_two 0x23 rfl rfl rfl rfl
theorem FetchForm.bitZp (z : Byte) : Statement (.bitZp z) := fetchForm_two 0x24 rfl rfl rfl rfl
theorem FetchForm.andZp (z : Byte) : Statement (.andZp z) := fetchForm_two 0x25 rfl rfl rfl rfl
theorem FetchForm.rolZp (z : Byte) : Statement (.rolZp z) := fetchForm_two 0x26 rfl rfl rfl rfl
theorem FetchForm.rlaZp (z : Byte) : Statement (.rlaZp z) := fetchForm_two 0x27 rfl rfl rfl rfl
theorem FetchForm.plp : Statement .plp := fetchForm_one 0x28 rfl rfl rfl
theorem FetchForm.andImm (v : Byte) : Statement (.andImm v) := fetchForm_two 0x29 rfl rfl rfl rfl
theorem FetchForm.rolAcc : Statement .rolAcc := fetchForm_one 0x2A rfl rfl rfl
theorem FetchForm.ancImm2B (v : Byte) : Statement (.ancImm2B v) := fetchForm_two 0x2B rfl rfl rfl rfl
theorem FetchForm.bitAbs (addr : Word) : Statement (.bitAbs addr) := fetchForm_three 0x2C rfl rfl rfl rfl
theorem FetchForm.andAbs (addr : Word) : Statement (.andAbs addr) := fetchForm_three 0x2D rfl rfl rfl rfl
theorem FetchForm.rolAbs (addr : Word) : Statement (.rolAbs addr) := fetchForm_three 0x2E rfl rfl rfl rfl
theorem FetchForm.rlaAbs (addr : Word) : Statement (.rlaAbs addr) := fetchForm_three 0x2F rfl rfl rfl rfl
theorem FetchForm.bmi (off : Byte) : Statement (.bmi off) := fetchForm_two 0x30 rfl rfl rfl rfl
theorem FetchForm.andIzy (z : Byte) : Statement (.andIzy z) := fetchForm_two 0x31 rfl rfl rfl rfl
theorem FetchForm.jam32 : Statement .jam32 := fetchForm_one 0x32 rfl rfl rfl
theorem FetchForm.rlaIzy (z : Byte) : Statement (.rlaIzy z) := fetchForm_two 0x33 rfl rfl rfl rfl
theorem FetchForm.nopZpx34 (z : Byte) : Statement (.nopZpx34 z) := fetchForm_two 0x34 rfl rfl rfl rfl
theorem FetchForm.andZpx (z : Byte) : Statement (.andZpx z) := fetchForm_two 0x35 rfl rfl rfl rfl
theorem FetchForm.rolZpx (z : Byte) : Statement (.rolZpx z) := fetchForm_two 0x36 rfl rfl rfl rfl
theorem FetchForm.rlaZpx (z : Byte) : Statement (.rlaZpx z) := fetchForm_two 0x37 rfl rfl rfl rfl
theorem FetchForm.sec : Statement .sec := fetchForm_one 0x38 rfl rfl rfl
theorem FetchForm.andAby (addr : Word) : Statement (.andAby addr) := fetchForm_three 0x39 rfl rfl rfl rfl
theorem FetchForm.nopImp3A : Statement .nopImp3A := fetchForm_one 0x3A rfl rfl rfl
theorem FetchForm.rlaAby (addr : Word) : Statement (.rlaAby addr) := fetchForm_three 0x3B rfl rfl rfl rfl
theorem FetchForm.nopAbx3C (addr : Word) : Statement (.nopAbx3C addr) := fetchForm_three 0x3C rfl rfl rfl rfl
theorem FetchForm.andAbx (addr : Word) : Statement (.andAbx addr) := fetchForm_three 0x3D rfl rfl rfl rfl
theorem FetchForm.rolAbx (addr : Word) : Statement (.rolAbx addr) := fetchForm_three 0x3E rfl rfl rfl rfl
theorem FetchForm.rlaAbx (addr : Word) : Statement (.rlaAbx addr) := fetchForm_three 0x3F rfl rfl rfl rfl
theorem FetchForm.rti : Statement .rti := fetchForm_one 0x40 rfl rfl rfl
theorem FetchForm.eorIzx (z : Byte) : Statement (.eorIzx z) := fetchForm_two 0x41 rfl rfl rfl rfl
theorem FetchForm.jam42 : Statement .jam42 := fetchForm_one 0x42 rfl rfl rfl
theorem FetchForm.sreIzx (z : Byte) : Statement (.sreIzx z) := fetchForm_two 0x43 rfl rfl rfl rfl
theorem FetchForm.nopZp44 (z : Byte) : Statement (.nopZp44 z) := fetchForm_two 0x44 rfl rfl rfl rfl
theorem FetchForm.eorZp (z : Byte) : Statement (.eorZp z) := fetchForm_two 0x45 rfl rfl rfl rfl
theorem FetchForm.lsrZp (z : Byte) : Statement (.lsrZp z) := fetchForm_two 0x46 rfl rfl rfl rfl
theorem FetchForm.sreZp (z : Byte) : Statement (.sreZp z) := fetchForm_two 0x47 rfl rfl rfl rfl
theorem FetchForm.pha : Statement .pha := fetchForm_one 0x48 rfl rfl rfl
theorem FetchForm.eorImm (v : Byte) : Statement (.eorImm v) := fetchForm_two 0x49 rfl rfl rfl rfl
theorem FetchForm.lsrAcc : Statement .lsrAcc := fetchForm_one 0x4A rfl rfl rfl
theorem FetchForm.alr (v : Byte) : Statement (.alr v) := fetchForm_two 0x4B rfl rfl rfl rfl
theorem FetchForm.jmpAbs (addr : Word) : Statement (.jmpAbs addr) := fetchForm_three 0x4C rfl rfl rfl rfl
theorem FetchForm.eorAbs (addr : Word) : Statement (.eorAbs addr) := fetchForm_three 0x4D rfl rfl rfl rfl
theorem FetchForm.lsrAbs (addr : Word) : Statement (.lsrAbs addr) := fetchForm_three 0x4E rfl rfl rfl rfl
theorem FetchForm.sreAbs (addr : Word) : Statement (.sreAbs addr) := fetchForm_three 0x4F rfl rfl rfl rfl
theorem FetchForm.bvc (off : Byte) : Statement (.bvc off) := fetchForm_two 0x50 rfl rfl rfl rfl
theorem FetchForm.eorIzy (z : Byte) : Statement (.eorIzy z) := fetchForm_two 0x51 rfl rfl rfl rfl
theorem FetchForm.jam52 : Statement .jam52 := fetchForm_one 0x52 rfl rfl rfl
theorem FetchForm.sreIzy (z : Byte) : Statement (.sreIzy z) := fetchForm_two 0x53 rfl rfl rfl rfl
theorem FetchForm.nopZpx54 (z : Byte) : Statement (.nopZpx54 z) := fetchForm_two 0x54 rfl rfl rfl rfl
theorem FetchForm.eorZpx (z : Byte) : Statement (.eorZpx z) := fetchForm_two 0x55 rfl rfl rfl rfl
theorem FetchForm.lsrZpx (z : Byte) : Statement (.lsrZpx z) := fetchForm_two 0x56 rfl rfl rfl rfl
theorem FetchForm.sreZpx (z : Byte) : Statement (.sreZpx z) := fetchForm_two 0x57 rfl rfl rfl rfl
theorem FetchForm.cli : Statement .cli := fetchForm_one 0x58 rfl rfl rfl
theorem FetchForm.eorAby (addr : Word) : Statement (.eorAby addr) := fetchForm_three 0x59 rfl rfl rfl rfl
theorem FetchForm.nopImp5A : Statement .nopImp5A := fetchForm_one 0x5A rfl rfl rfl
theorem FetchForm.sreAby (addr : Word) : Statement (.sreAby addr) := fetchForm_three 0x5B rfl rfl rfl rfl
theorem FetchForm.nopAbx5C (addr : Word) : Statement (.nopAbx5C addr) := fetchForm_three 0x5C rfl rfl rfl rfl
theorem FetchForm.eorAbx (addr : Word) : Statement (.eorAbx addr) := fetchForm_three 0x5D rfl rfl rfl rfl
theorem FetchForm.lsrAbx (addr : Word) : Statement (.lsrAbx addr) := fetchForm_three 0x5E rfl rfl rfl rfl
theorem FetchForm.sreAbx (addr : Word) : Statement (.sreAbx addr) := fetchForm_three 0x5F rfl rfl rfl rfl
theorem FetchForm.rts : Statement .rts := fetchForm_one 0x60 rfl rfl rfl
theorem FetchForm.adcIzx (z : Byte) : Statement (.adcIzx z) := fetchForm_two 0x61 rfl rfl rfl rfl
theorem FetchForm.jam62 : Statement .jam62 := fetchForm_one 0x62 rfl rfl rfl
theorem FetchForm.rraIzx (z : Byte) : Statement (.rraIzx z) := fetchForm_two 0x63 rfl rfl rfl rfl
theorem FetchForm.nopZp64 (z : Byte) : Statement (.nopZp64 z) := fetchForm_two 0x64 rfl rfl rfl rfl
theorem FetchForm.adcZp (z : Byte) : Statement (.adcZp z) := fetchForm_two 0x65 rfl rfl rfl rfl
theorem FetchForm.rorZp (z : Byte) : Statement (.rorZp z) := fetchForm_two 0x66 rfl rfl rfl rfl
theorem FetchForm.rraZp (z : Byte) : Statement (.rraZp z) := fetchForm_two 0x67 rfl rfl rfl rfl
theorem FetchForm.pla : Statement .pla := fetchForm_one 0x68 rfl rfl rfl
theorem FetchForm.adcImm (v : Byte) : Statement (.adcImm v) := fetchForm_two 0x69 rfl rfl rfl rfl
theorem FetchForm.rorAcc : Statement .rorAcc := fetchForm_one 0x6A rfl rfl rfl
theorem FetchForm.arr (v : Byte) : Statement (.arr v) := fetchForm_two 0x6B rfl rfl rfl rfl
theorem FetchForm.jmpInd (ptr : Word) : Statement (.jmpInd ptr) := fetchForm_three 0x6C rfl rfl rfl rfl
theorem FetchForm.adcAbs (addr : Word) : Statement (.adcAbs addr) := fetchForm_three 0x6D rfl rfl rfl rfl
theorem FetchForm.rorAbs (addr : Word) : Statement (.rorAbs addr) := fetchForm_three 0x6E rfl rfl rfl rfl
theorem FetchForm.rraAbs (addr : Word) : Statement (.rraAbs addr) := fetchForm_three 0x6F rfl rfl rfl rfl
theorem FetchForm.bvs (off : Byte) : Statement (.bvs off) := fetchForm_two 0x70 rfl rfl rfl rfl
theorem FetchForm.adcIzy (z : Byte) : Statement (.adcIzy z) := fetchForm_two 0x71 rfl rfl rfl rfl
theorem FetchForm.jam72 : Statement .jam72 := fetchForm_one 0x72 rfl rfl rfl
theorem FetchForm.rraIzy (z : Byte) : Statement (.rraIzy z) := fetchForm_two 0x73 rfl rfl rfl rfl
theorem FetchForm.nopZpx74 (z : Byte) : Statement (.nopZpx74 z) := fetchForm_two 0x74 rfl rfl rfl rfl
theorem FetchForm.adcZpx (z : Byte) : Statement (.adcZpx z) := fetchForm_two 0x75 rfl rfl rfl rfl
theorem FetchForm.rorZpx (z : Byte) : Statement (.rorZpx z) := fetchForm_two 0x76 rfl rfl rfl rfl
theorem FetchForm.rraZpx (z : Byte) : Statement (.rraZpx z) := fetchForm_two 0x77 rfl rfl rfl rfl
theorem FetchForm.sei : Statement .sei := fetchForm_one 0x78 rfl rfl rfl
theorem FetchForm.adcAby (addr : Word) : Statement (.adcAby addr) := fetchForm_three 0x79 rfl rfl rfl rfl
theorem FetchForm.nopImp7A : Statement .nopImp7A := fetchForm_one 0x7A rfl rfl rfl
theorem FetchForm.rraAby (addr : Word) : Statement (.rraAby addr) := fetchForm_three 0x7B rfl rfl rfl rfl
theorem FetchForm.nopAbx7C (addr : Word) : Statement (.nopAbx7C addr) := fetchForm_three 0x7C rfl rfl rfl rfl
theorem FetchForm.adcAbx (addr : Word) : Statement (.adcAbx addr) := fetchForm_three 0x7D rfl rfl rfl rfl
theorem FetchForm.rorAbx (addr : Word) : Statement (.rorAbx addr) := fetchForm_three 0x7E rfl rfl rfl rfl
theorem FetchForm.rraAbx (addr : Word) : Statement (.rraAbx addr) := fetchForm_three 0x7F rfl rfl rfl rfl
theorem FetchForm.nopImm80 (v : Byte) : Statement (.nopImm80 v) := fetchForm_two 0x80 rfl rfl rfl rfl
theorem FetchForm.staIzx (z : Byte) : Statement (.staIzx z) := fetchForm_two 0x81 rfl rfl rfl rfl
theorem FetchForm.nopImm82 (v : Byte) : Statement (.nopImm82 v) := fetchForm_two 0x82 rfl rfl rfl rfl
theorem FetchForm.saxIzx (z : Byte) : Statement (.saxIzx z) := fetchForm_two 0x83 rfl rfl rfl rfl
theorem FetchForm.styZp (z : Byte) : Statement (.styZp z) := fetchForm_two 0x84 rfl rfl rfl rfl
theorem FetchForm.staZp (z : Byte) : Statement (.staZp z) := fetchForm_two 0x85 rfl rfl rfl rfl
theorem FetchForm.stxZp (z : Byte) : Statement (.stxZp z) := fetchForm_two 0x86 rfl rfl rfl rfl
theorem FetchForm.saxZp (z : Byte) : Statement (.saxZp z) := fetchForm_two 0x87 rfl rfl rfl rfl
theorem FetchForm.dey : Statement .dey := fetchForm_one 0x88 rfl rfl rfl
theorem FetchForm.nopImm89 (v : Byte) : Statement (.nopImm89 v) := fetchForm_two 0x89 rfl rfl rfl rfl
theorem FetchForm.txa : Statement .txa := fetchForm_one 0x8A rfl rfl rfl
theorem FetchForm.ane (v : Byte) : Statement (.ane v) := fetchForm_two 0x8B rfl rfl rfl rfl
theorem FetchForm.styAbs (addr : Word) : Statement (.styAbs addr) := fetchForm_three 0x8C rfl rfl rfl rfl
theorem FetchForm.staAbs (addr : Word) : Statement (.staAbs addr) := fetchForm_three 0x8D rfl rfl rfl rfl
theorem FetchForm.stxAbs (addr : Word) : Statement (.stxAbs addr) := fetchForm_three 0x8E rfl rfl rfl rfl
theorem FetchForm.saxAbs (addr : Word) : Statement (.saxAbs addr) := fetchForm_three 0x8F rfl rfl rfl rfl
theorem FetchForm.bcc (off : Byte) : Statement (.bcc off) := fetchForm_two 0x90 rfl rfl rfl rfl
theorem FetchForm.staIzy (z : Byte) : Statement (.staIzy z) := fetchForm_two 0x91 rfl rfl rfl rfl
theorem FetchForm.jam92 : Statement .jam92 := fetchForm_one 0x92 rfl rfl rfl
theorem FetchForm.shaIzy (z : Byte) : Statement (.shaIzy z) := fetchForm_two 0x93 rfl rfl rfl rfl
theorem FetchForm.styZpx (z : Byte) : Statement (.styZpx z) := fetchForm_two 0x94 rfl rfl rfl rfl
theorem FetchForm.staZpx (z : Byte) : Statement (.staZpx z) := fetchForm_two 0x95 rfl rfl rfl rfl
theorem FetchForm.stxZpy (z : Byte) : Statement (.stxZpy z) := fetchForm_two 0x96 rfl rfl rfl rfl
theorem FetchForm.saxZpy (z : Byte) : Statement (.saxZpy z) := fetchForm_two 0x97 rfl rfl rfl rfl
theorem FetchForm.tya : Statement .tya := fetchForm_one 0x98 rfl rfl rfl
theorem FetchForm.staAby (addr : Word) : Statement (.staAby addr) := fetchForm_three 0x99 rfl rfl rfl rfl
theorem FetchForm.txs : Statement .txs := fetchForm_one 0x9A rfl rfl rfl
theorem FetchForm.tas (addr : Word) : Statement (.tas addr) := fetchForm_three 0x9B rfl rfl rfl rfl
theorem FetchForm.shy (addr : Word) : Statement (.shy addr) := fetchForm_three 0x9C rfl rfl rfl rfl
theorem FetchForm.staAbx (addr : Word) : Statement (.staAbx addr) := fetchForm_three 0x9D rfl rfl rfl rfl
theorem FetchForm.shx (addr : Word) : Statement (.shx addr) := fetchForm_three 0x9E rfl rfl rfl rfl
theorem FetchForm.shaAby (addr : Word) : Statement (.shaAby addr) := fetchForm_three 0x9F rfl rfl rfl rfl
theorem FetchForm.ldyImm (v : Byte) : Statement (.ldyImm v) := fetchForm_two 0xA0 rfl rfl rfl rfl
theorem FetchForm.ldaIzx (z : Byte) : Statement (.ldaIzx z) := fetchForm_two 0xA1 rfl rfl rfl rfl
theorem FetchForm.ldxImm (v : Byte) : Statement (.ldxImm v) := fetchForm_two 0xA2 rfl rfl rfl rfl
theorem FetchForm.laxIzx (z : Byte) : Statement (.laxIzx z) := fetchForm_two 0xA3 rfl rfl rfl rfl
theorem FetchForm.ldyZp (z : Byte) : Statement (.ldyZp z) := fetchForm_two 0xA4 rfl rfl rfl rfl
theorem FetchForm.ldaZp (z : Byte) : Statement (.ldaZp z) := fetchForm_two 0xA5 rfl rfl rfl rfl
theorem FetchForm.ldxZp (z : Byte) : Statement (.ldxZp z) := fetchForm_two 0xA6 rfl rfl rfl rfl
theorem FetchForm.laxZp (z : Byte) : Statement (.laxZp z) := fetchForm_two 0xA7 rfl rfl rfl rfl
theorem FetchForm.tay : Statement .tay := fetchForm_one 0xA8 rfl rfl rfl
theorem FetchForm.ldaImm (v : Byte) : Statement (.ldaImm v) := fetchForm_two 0xA9 rfl rfl rfl rfl
theorem FetchForm.tax : Statement .tax := fetchForm_one 0xAA rfl rfl rfl
theorem FetchForm.lxa (v : Byte) : Statement (.lxa v) := fetchForm_two 0xAB rfl rfl rfl rfl
theorem FetchForm.ldyAbs (addr : Word) : Statement (.ldyAbs addr) := fetchForm_three 0xAC rfl rfl rfl rfl
theorem FetchForm.ldaAbs (addr : Word) : Statement (.ldaAbs addr) := fetchForm_three 0xAD rfl rfl rfl rfl
theorem FetchForm.ldxAbs (addr : Word) : Statement (.ldxAbs addr) := fetchForm_three 0xAE rfl rfl rfl rfl
theorem FetchForm.laxAbs (addr : Word) : Statement (.laxAbs addr) := fetchForm_three 0xAF rfl rfl rfl rfl
theorem FetchForm.bcs (off : Byte) : Statement (.bcs off) := fetchForm_two 0xB0 rfl rfl rfl rfl
theorem FetchForm.ldaIzy (z : Byte) : Statement (.ldaIzy z) := fetchForm_two 0xB1 rfl rfl rfl rfl
theorem FetchForm.jamB2 : Statement .jamB2 := fetchForm_one 0xB2 rfl rfl rfl
theorem FetchForm.laxIzy (z : Byte) : Statement (.laxIzy z) := fetchForm_two 0xB3 rfl rfl rfl rfl
theorem FetchForm.ldyZpx (z : Byte) : Statement (.ldyZpx z) := fetchForm_two 0xB4 rfl rfl rfl rfl
theorem FetchForm.ldaZpx (z : Byte) : Statement (.ldaZpx z) := fetchForm_two 0xB5 rfl rfl rfl rfl
theorem FetchForm.ldxZpy (z : Byte) : Statement (.ldxZpy z) := fetchForm_two 0xB6 rfl rfl rfl rfl
theorem FetchForm.laxZpy (z : Byte) : Statement (.laxZpy z) := fetchForm_two 0xB7 rfl rfl rfl rfl
theorem FetchForm.clv : Statement .clv := fetchForm_one 0xB8 rfl rfl rfl
theorem FetchForm.ldaAby (addr : Word) : Statement (.ldaAby addr) := fetchForm_three 0xB9 rfl rfl rfl rfl
theorem FetchForm.tsx : Statement .tsx := fetchForm_one 0xBA rfl rfl rfl
theorem FetchForm.las (addr : Word) : Statement (.las addr) := fetchForm_three 0xBB rfl rfl rfl rfl
theorem FetchForm.ldyAbx (addr : Word) : Statement (.ldyAbx addr) := fetchForm_three 0xBC rfl rfl rfl rfl
theorem FetchForm.ldaAbx (addr : Word) : Statement (.ldaAbx addr) := fetchForm_three 0xBD rfl rfl rfl rfl
theorem FetchForm.ldxAby (addr : Word) : Statement (.ldxAby addr) := fetchForm_three 0xBE rfl rfl rfl rfl
theorem FetchForm.laxAby (addr : Word) : Statement (.laxAby addr) := fetchForm_three 0xBF rfl rfl rfl rfl
theorem FetchForm.cpyImm (v : Byte) : Statement (.cpyImm v) := fetchForm_two 0xC0 rfl rfl rfl rfl
theorem FetchForm.cmpIzx (z : Byte) : Statement (.cmpIzx z) := fetchForm_two 0xC1 rfl rfl rfl rfl
theorem FetchForm.nopImmC2 (v : Byte) : Statement (.nopImmC2 v) := fetchForm_two 0xC2 rfl rfl rfl rfl
theorem FetchForm.dcpIzx (z : Byte) : Statement (.dcpIzx z) := fetchForm_two 0xC3 rfl rfl rfl rfl
theorem FetchForm.cpyZp (z : Byte) : Statement (.cpyZp z) := fetchForm_two 0xC4 rfl rfl rfl rfl
theorem FetchForm.cmpZp (z : Byte) : Statement (.cmpZp z) := fetchForm_two 0xC5 rfl rfl rfl rfl
theorem FetchForm.decZp (z : Byte) : Statement (.decZp z) := fetchForm_two 0xC6 rfl rfl rfl rfl
theorem FetchForm.dcpZp (z : Byte) : Statement (.dcpZp z) := fetchForm_two 0xC7 rfl rfl rfl rfl
theorem FetchForm.iny : Statement .iny := fetchForm_one 0xC8 rfl rfl rfl
theorem FetchForm.cmpImm (v : Byte) : Statement (.cmpImm v) := fetchForm_two 0xC9 rfl rfl rfl rfl
theorem FetchForm.dex : Statement .dex := fetchForm_one 0xCA rfl rfl rfl
theorem FetchForm.sbx (v : Byte) : Statement (.sbx v) := fetchForm_two 0xCB rfl rfl rfl rfl
theorem FetchForm.cpyAbs (addr : Word) : Statement (.cpyAbs addr) := fetchForm_three 0xCC rfl rfl rfl rfl
theorem FetchForm.cmpAbs (addr : Word) : Statement (.cmpAbs addr) := fetchForm_three 0xCD rfl rfl rfl rfl
theorem FetchForm.decAbs (addr : Word) : Statement (.decAbs addr) := fetchForm_three 0xCE rfl rfl rfl rfl
theorem FetchForm.dcpAbs (addr : Word) : Statement (.dcpAbs addr) := fetchForm_three 0xCF rfl rfl rfl rfl
theorem FetchForm.bne (off : Byte) : Statement (.bne off) := fetchForm_two 0xD0 rfl rfl rfl rfl
theorem FetchForm.cmpIzy (z : Byte) : Statement (.cmpIzy z) := fetchForm_two 0xD1 rfl rfl rfl rfl
theorem FetchForm.jamD2 : Statement .jamD2 := fetchForm_one 0xD2 rfl rfl rfl
theorem FetchForm.dcpIzy (z : Byte) : Statement (.dcpIzy z) := fetchForm_two 0xD3 rfl rfl rfl rfl
theorem FetchForm.nopZpxD4 (z : Byte) : Statement (.nopZpxD4 z) := fetchForm_two 0xD4 rfl rfl rfl rfl
theorem FetchForm.cmpZpx (z : Byte) : Statement (.cmpZpx z) := fetchForm_two 0xD5 rfl rfl rfl rfl
theorem FetchForm.decZpx (z : Byte) : Statement (.decZpx z) := fetchForm_two 0xD6 rfl rfl rfl rfl
theorem FetchForm.dcpZpx (z : Byte) : Statement (.dcpZpx z) := fetchForm_two 0xD7 rfl rfl rfl rfl
theorem FetchForm.cld : Statement .cld := fetchForm_one 0xD8 rfl rfl rfl
theorem FetchForm.cmpAby (addr : Word) : Statement (.cmpAby addr) := fetchForm_three 0xD9 rfl rfl rfl rfl
theorem FetchForm.nopImpDA : Statement .nopImpDA := fetchForm_one 0xDA rfl rfl rfl
theorem FetchForm.dcpAby (addr : Word) : Statement (.dcpAby addr) := fetchForm_three 0xDB rfl rfl rfl rfl
theorem FetchForm.nopAbxDC (addr : Word) : Statement (.nopAbxDC addr) := fetchForm_three 0xDC rfl rfl rfl rfl
theorem FetchForm.cmpAbx (addr : Word) : Statement (.cmpAbx addr) := fetchForm_three 0xDD rfl rfl rfl rfl
theorem FetchForm.decAbx (addr : Word) : Statement (.decAbx addr) := fetchForm_three 0xDE rfl rfl rfl rfl
theorem FetchForm.dcpAbx (addr : Word) : Statement (.dcpAbx addr) := fetchForm_three 0xDF rfl rfl rfl rfl
theorem FetchForm.cpxImm (v : Byte) : Statement (.cpxImm v) := fetchForm_two 0xE0 rfl rfl rfl rfl
theorem FetchForm.sbcIzx (z : Byte) : Statement (.sbcIzx z) := fetchForm_two 0xE1 rfl rfl rfl rfl
theorem FetchForm.nopImmE2 (v : Byte) : Statement (.nopImmE2 v) := fetchForm_two 0xE2 rfl rfl rfl rfl
theorem FetchForm.iscIzx (z : Byte) : Statement (.iscIzx z) := fetchForm_two 0xE3 rfl rfl rfl rfl
theorem FetchForm.cpxZp (z : Byte) : Statement (.cpxZp z) := fetchForm_two 0xE4 rfl rfl rfl rfl
theorem FetchForm.sbcZp (z : Byte) : Statement (.sbcZp z) := fetchForm_two 0xE5 rfl rfl rfl rfl
theorem FetchForm.incZp (z : Byte) : Statement (.incZp z) := fetchForm_two 0xE6 rfl rfl rfl rfl
theorem FetchForm.iscZp (z : Byte) : Statement (.iscZp z) := fetchForm_two 0xE7 rfl rfl rfl rfl
theorem FetchForm.inx : Statement .inx := fetchForm_one 0xE8 rfl rfl rfl
theorem FetchForm.sbcImm (v : Byte) : Statement (.sbcImm v) := fetchForm_two 0xE9 rfl rfl rfl rfl
theorem FetchForm.nopImp : Statement .nopImp := fetchForm_one 0xEA rfl rfl rfl
theorem FetchForm.sbcImmEB (v : Byte) : Statement (.sbcImmEB v) := fetchForm_two 0xEB rfl rfl rfl rfl
theorem FetchForm.cpxAbs (addr : Word) : Statement (.cpxAbs addr) := fetchForm_three 0xEC rfl rfl rfl rfl
theorem FetchForm.sbcAbs (addr : Word) : Statement (.sbcAbs addr) := fetchForm_three 0xED rfl rfl rfl rfl
theorem FetchForm.incAbs (addr : Word) : Statement (.incAbs addr) := fetchForm_three 0xEE rfl rfl rfl rfl
theorem FetchForm.iscAbs (addr : Word) : Statement (.iscAbs addr) := fetchForm_three 0xEF rfl rfl rfl rfl
theorem FetchForm.beq (off : Byte) : Statement (.beq off) := fetchForm_two 0xF0 rfl rfl rfl rfl
theorem FetchForm.sbcIzy (z : Byte) : Statement (.sbcIzy z) := fetchForm_two 0xF1 rfl rfl rfl rfl
theorem FetchForm.jamF2 : Statement .jamF2 := fetchForm_one 0xF2 rfl rfl rfl
theorem FetchForm.iscIzy (z : Byte) : Statement (.iscIzy z) := fetchForm_two 0xF3 rfl rfl rfl rfl
theorem FetchForm.nopZpxF4 (z : Byte) : Statement (.nopZpxF4 z) := fetchForm_two 0xF4 rfl rfl rfl rfl
theorem FetchForm.sbcZpx (z : Byte) : Statement (.sbcZpx z) := fetchForm_two 0xF5 rfl rfl rfl rfl
theorem FetchForm.incZpx (z : Byte) : Statement (.incZpx z) := fetchForm_two 0xF6 rfl rfl rfl rfl
theorem FetchForm.iscZpx (z : Byte) : Statement (.iscZpx z) := fetchForm_two 0xF7 rfl rfl rfl rfl
theorem FetchForm.sed : Statement .sed := fetchForm_one 0xF8 rfl rfl rfl
theorem FetchForm.sbcAby (addr : Word) : Statement (.sbcAby addr) := fetchForm_three 0xF9 rfl rfl rfl rfl
theorem FetchForm.nopImpFA : Statement .nopImpFA := fetchForm_one 0xFA rfl rfl rfl
theorem FetchForm.iscAby (addr : Word) : Statement (.iscAby addr) := fetchForm_three 0xFB rfl rfl rfl rfl
theorem FetchForm.nopAbxFC (addr : Word) : Statement (.nopAbxFC addr) := fetchForm_three 0xFC rfl rfl rfl rfl
theorem FetchForm.sbcAbx (addr : Word) : Statement (.sbcAbx addr) := fetchForm_three 0xFD rfl rfl rfl rfl
theorem FetchForm.incAbx (addr : Word) : Statement (.incAbx addr) := fetchForm_three 0xFE rfl rfl rfl rfl
theorem FetchForm.iscAbx (addr : Word) : Statement (.iscAbx addr) := fetchForm_three 0xFF rfl rfl rfl rfl

end Laws

end Sys2Proof
end

