-- ==== Sys2Proof/Tests/Slice0.lean ====
section
/-! SUPPORT. The model's own tests: WellFormed refuses, every opcode decodes from the word spec/opcode_table.json and R116 give it,
one step per mnemonic against the rule's own Example line, and a witness for every statement that has hypotheses. Every
expected value is the spec's; the source stands in each theorem's comment. -/

-- Many small kernel evaluations in one file: checked one after the other, so that Lean starts no thread for each.
set_option Elab.async false

namespace Sys2Proof.Machine

/-! ### WellFormed -/

/-- No opcode byte. -/
theorem test_code_empty : codeFlaw [] = some .noOpcode ∧ wellFormedCode [] = false := by decide

/-- LDA imm without its operand, LDA abs with one byte of two (R112). -/
theorem test_code_short : codeFlaw [0xA9#8] = some .tooShort ∧ codeFlaw [0xAD#8, 0x00#8] = some .tooShort := by decide

/-- A byte after a NOP, after an LDA imm, after a JMP (R112). -/
theorem test_code_long :
    codeFlaw [0xEA#8, 0xEA#8] = some .tooLong ∧ codeFlaw [0xA9#8, 0x01#8, 0x02#8] = some .tooLong ∧
      codeFlaw [0x4C#8, 0x00#8, 0xC0#8, 0x00#8] = some .tooLong := by decide

/-- Well-formed code of each format (R112). -/
theorem test_code_good :
    wellFormedCode [0xEA#8] = true ∧ wellFormedCode [0xA9#8, 0x01#8] = true ∧
      wellFormedCode [0x4C#8, 0x00#8, 0xC0#8] = true := by decide

/-- Missing bytes are refused by name. -/
theorem test_decode_refuses :
    decode [] = .error .empty ∧ decode [0xA9#8] = .error .truncated ∧ decode [0xAD#8, 0x00#8] = .error .truncated :=
  ⟨rfl, rfl, rfl⟩

/-! ### Decoding, row by row of R116's map; the opcode byte is written out bit by bit as the table's encoding has it -/

/-- Row 0x of the opcode map (R116). -/
theorem test_decode_row0 :
    decode [0b00000000] = .ok (.brk, []) ∧
    decode [0b00000001, 0x5A] = .ok (.oraIzx 0x5A, []) ∧
    decode [0b00000010] = .ok (.jam02, []) ∧
    decode [0b00000011, 0x5A] = .ok (.sloIzx 0x5A, []) ∧
    decode [0b00000100, 0x5A] = .ok (.nopZp04 0x5A, []) ∧
    decode [0b00000101, 0x5A] = .ok (.oraZp 0x5A, []) ∧
    decode [0b00000110, 0x5A] = .ok (.aslZp 0x5A, []) ∧
    decode [0b00000111, 0x5A] = .ok (.sloZp 0x5A, []) ∧
    decode [0b00001000] = .ok (.php, []) ∧
    decode [0b00001001, 0x5A] = .ok (.oraImm 0x5A, []) ∧
    decode [0b00001010] = .ok (.aslAcc, []) ∧
    decode [0b00001011, 0x5A] = .ok (.ancImm0B 0x5A, []) ∧
    decode [0b00001100, 0x34, 0x12] = .ok (.nopAbs 0x1234, []) ∧
    decode [0b00001101, 0x34, 0x12] = .ok (.oraAbs 0x1234, []) ∧
    decode [0b00001110, 0x34, 0x12] = .ok (.aslAbs 0x1234, []) ∧
    decode [0b00001111, 0x34, 0x12] = .ok (.sloAbs 0x1234, []) :=
  ⟨rfl, rfl, rfl, rfl, rfl, rfl, rfl, rfl, rfl, rfl, rfl, rfl, rfl, rfl, rfl, rfl⟩

/-- Row 1x of the opcode map (R116). -/
theorem test_decode_row1 :
    decode [0b00010000, 0x5A] = .ok (.bpl 0x5A, []) ∧
    decode [0b00010001, 0x5A] = .ok (.oraIzy 0x5A, []) ∧
    decode [0b00010010] = .ok (.jam12, []) ∧
    decode [0b00010011, 0x5A] = .ok (.sloIzy 0x5A, []) ∧
    decode [0b00010100, 0x5A] = .ok (.nopZpx14 0x5A, []) ∧
    decode [0b00010101, 0x5A] = .ok (.oraZpx 0x5A, []) ∧
    decode [0b00010110, 0x5A] = .ok (.aslZpx 0x5A, []) ∧
    decode [0b00010111, 0x5A] = .ok (.sloZpx 0x5A, []) ∧
    decode [0b00011000] = .ok (.clc, []) ∧
    decode [0b00011001, 0x34, 0x12] = .ok (.oraAby 0x1234, []) ∧
    decode [0b00011010] = .ok (.nopImp1A, []) ∧
    decode [0b00011011, 0x34, 0x12] = .ok (.sloAby 0x1234, []) ∧
    decode [0b00011100, 0x34, 0x12] = .ok (.nopAbx1C 0x1234, []) ∧
    decode [0b00011101, 0x34, 0x12] = .ok (.oraAbx 0x1234, []) ∧
    decode [0b00011110, 0x34, 0x12] = .ok (.aslAbx 0x1234, []) ∧
    decode [0b00011111, 0x34, 0x12] = .ok (.sloAbx 0x1234, []) :=
  ⟨rfl, rfl, rfl, rfl, rfl, rfl, rfl, rfl, rfl, rfl, rfl, rfl, rfl, rfl, rfl, rfl⟩

/-- Row 2x of the opcode map (R116). -/
theorem test_decode_row2 :
    decode [0b00100000, 0x34, 0x12] = .ok (.jsr 0x1234, []) ∧
    decode [0b00100001, 0x5A] = .ok (.andIzx 0x5A, []) ∧
    decode [0b00100010] = .ok (.jam22, []) ∧
    decode [0b00100011, 0x5A] = .ok (.rlaIzx 0x5A, []) ∧
    decode [0b00100100, 0x5A] = .ok (.bitZp 0x5A, []) ∧
    decode [0b00100101, 0x5A] = .ok (.andZp 0x5A, []) ∧
    decode [0b00100110, 0x5A] = .ok (.rolZp 0x5A, []) ∧
    decode [0b00100111, 0x5A] = .ok (.rlaZp 0x5A, []) ∧
    decode [0b00101000] = .ok (.plp, []) ∧
    decode [0b00101001, 0x5A] = .ok (.andImm 0x5A, []) ∧
    decode [0b00101010] = .ok (.rolAcc, []) ∧
    decode [0b00101011, 0x5A] = .ok (.ancImm2B 0x5A, []) ∧
    decode [0b00101100, 0x34, 0x12] = .ok (.bitAbs 0x1234, []) ∧
    decode [0b00101101, 0x34, 0x12] = .ok (.andAbs 0x1234, []) ∧
    decode [0b00101110, 0x34, 0x12] = .ok (.rolAbs 0x1234, []) ∧
    decode [0b00101111, 0x34, 0x12] = .ok (.rlaAbs 0x1234, []) :=
  ⟨rfl, rfl, rfl, rfl, rfl, rfl, rfl, rfl, rfl, rfl, rfl, rfl, rfl, rfl, rfl, rfl⟩

/-- Row 3x of the opcode map (R116). -/
theorem test_decode_row3 :
    decode [0b00110000, 0x5A] = .ok (.bmi 0x5A, []) ∧
    decode [0b00110001, 0x5A] = .ok (.andIzy 0x5A, []) ∧
    decode [0b00110010] = .ok (.jam32, []) ∧
    decode [0b00110011, 0x5A] = .ok (.rlaIzy 0x5A, []) ∧
    decode [0b00110100, 0x5A] = .ok (.nopZpx34 0x5A, []) ∧
    decode [0b00110101, 0x5A] = .ok (.andZpx 0x5A, []) ∧
    decode [0b00110110, 0x5A] = .ok (.rolZpx 0x5A, []) ∧
    decode [0b00110111, 0x5A] = .ok (.rlaZpx 0x5A, []) ∧
    decode [0b00111000] = .ok (.sec, []) ∧
    decode [0b00111001, 0x34, 0x12] = .ok (.andAby 0x1234, []) ∧
    decode [0b00111010] = .ok (.nopImp3A, []) ∧
    decode [0b00111011, 0x34, 0x12] = .ok (.rlaAby 0x1234, []) ∧
    decode [0b00111100, 0x34, 0x12] = .ok (.nopAbx3C 0x1234, []) ∧
    decode [0b00111101, 0x34, 0x12] = .ok (.andAbx 0x1234, []) ∧
    decode [0b00111110, 0x34, 0x12] = .ok (.rolAbx 0x1234, []) ∧
    decode [0b00111111, 0x34, 0x12] = .ok (.rlaAbx 0x1234, []) :=
  ⟨rfl, rfl, rfl, rfl, rfl, rfl, rfl, rfl, rfl, rfl, rfl, rfl, rfl, rfl, rfl, rfl⟩

/-- Row 4x of the opcode map (R116). -/
theorem test_decode_row4 :
    decode [0b01000000] = .ok (.rti, []) ∧
    decode [0b01000001, 0x5A] = .ok (.eorIzx 0x5A, []) ∧
    decode [0b01000010] = .ok (.jam42, []) ∧
    decode [0b01000011, 0x5A] = .ok (.sreIzx 0x5A, []) ∧
    decode [0b01000100, 0x5A] = .ok (.nopZp44 0x5A, []) ∧
    decode [0b01000101, 0x5A] = .ok (.eorZp 0x5A, []) ∧
    decode [0b01000110, 0x5A] = .ok (.lsrZp 0x5A, []) ∧
    decode [0b01000111, 0x5A] = .ok (.sreZp 0x5A, []) ∧
    decode [0b01001000] = .ok (.pha, []) ∧
    decode [0b01001001, 0x5A] = .ok (.eorImm 0x5A, []) ∧
    decode [0b01001010] = .ok (.lsrAcc, []) ∧
    decode [0b01001011, 0x5A] = .ok (.alr 0x5A, []) ∧
    decode [0b01001100, 0x34, 0x12] = .ok (.jmpAbs 0x1234, []) ∧
    decode [0b01001101, 0x34, 0x12] = .ok (.eorAbs 0x1234, []) ∧
    decode [0b01001110, 0x34, 0x12] = .ok (.lsrAbs 0x1234, []) ∧
    decode [0b01001111, 0x34, 0x12] = .ok (.sreAbs 0x1234, []) :=
  ⟨rfl, rfl, rfl, rfl, rfl, rfl, rfl, rfl, rfl, rfl, rfl, rfl, rfl, rfl, rfl, rfl⟩

/-- Row 5x of the opcode map (R116). -/
theorem test_decode_row5 :
    decode [0b01010000, 0x5A] = .ok (.bvc 0x5A, []) ∧
    decode [0b01010001, 0x5A] = .ok (.eorIzy 0x5A, []) ∧
    decode [0b01010010] = .ok (.jam52, []) ∧
    decode [0b01010011, 0x5A] = .ok (.sreIzy 0x5A, []) ∧
    decode [0b01010100, 0x5A] = .ok (.nopZpx54 0x5A, []) ∧
    decode [0b01010101, 0x5A] = .ok (.eorZpx 0x5A, []) ∧
    decode [0b01010110, 0x5A] = .ok (.lsrZpx 0x5A, []) ∧
    decode [0b01010111, 0x5A] = .ok (.sreZpx 0x5A, []) ∧
    decode [0b01011000] = .ok (.cli, []) ∧
    decode [0b01011001, 0x34, 0x12] = .ok (.eorAby 0x1234, []) ∧
    decode [0b01011010] = .ok (.nopImp5A, []) ∧
    decode [0b01011011, 0x34, 0x12] = .ok (.sreAby 0x1234, []) ∧
    decode [0b01011100, 0x34, 0x12] = .ok (.nopAbx5C 0x1234, []) ∧
    decode [0b01011101, 0x34, 0x12] = .ok (.eorAbx 0x1234, []) ∧
    decode [0b01011110, 0x34, 0x12] = .ok (.lsrAbx 0x1234, []) ∧
    decode [0b01011111, 0x34, 0x12] = .ok (.sreAbx 0x1234, []) :=
  ⟨rfl, rfl, rfl, rfl, rfl, rfl, rfl, rfl, rfl, rfl, rfl, rfl, rfl, rfl, rfl, rfl⟩

/-- Row 6x of the opcode map (R116). -/
theorem test_decode_row6 :
    decode [0b01100000] = .ok (.rts, []) ∧
    decode [0b01100001, 0x5A] = .ok (.adcIzx 0x5A, []) ∧
    decode [0b01100010] = .ok (.jam62, []) ∧
    decode [0b01100011, 0x5A] = .ok (.rraIzx 0x5A, []) ∧
    decode [0b01100100, 0x5A] = .ok (.nopZp64 0x5A, []) ∧
    decode [0b01100101, 0x5A] = .ok (.adcZp 0x5A, []) ∧
    decode [0b01100110, 0x5A] = .ok (.rorZp 0x5A, []) ∧
    decode [0b01100111, 0x5A] = .ok (.rraZp 0x5A, []) ∧
    decode [0b01101000] = .ok (.pla, []) ∧
    decode [0b01101001, 0x5A] = .ok (.adcImm 0x5A, []) ∧
    decode [0b01101010] = .ok (.rorAcc, []) ∧
    decode [0b01101011, 0x5A] = .ok (.arr 0x5A, []) ∧
    decode [0b01101100, 0x34, 0x12] = .ok (.jmpInd 0x1234, []) ∧
    decode [0b01101101, 0x34, 0x12] = .ok (.adcAbs 0x1234, []) ∧
    decode [0b01101110, 0x34, 0x12] = .ok (.rorAbs 0x1234, []) ∧
    decode [0b01101111, 0x34, 0x12] = .ok (.rraAbs 0x1234, []) :=
  ⟨rfl, rfl, rfl, rfl, rfl, rfl, rfl, rfl, rfl, rfl, rfl, rfl, rfl, rfl, rfl, rfl⟩

/-- Row 7x of the opcode map (R116). -/
theorem test_decode_row7 :
    decode [0b01110000, 0x5A] = .ok (.bvs 0x5A, []) ∧
    decode [0b01110001, 0x5A] = .ok (.adcIzy 0x5A, []) ∧
    decode [0b01110010] = .ok (.jam72, []) ∧
    decode [0b01110011, 0x5A] = .ok (.rraIzy 0x5A, []) ∧
    decode [0b01110100, 0x5A] = .ok (.nopZpx74 0x5A, []) ∧
    decode [0b01110101, 0x5A] = .ok (.adcZpx 0x5A, []) ∧
    decode [0b01110110, 0x5A] = .ok (.rorZpx 0x5A, []) ∧
    decode [0b01110111, 0x5A] = .ok (.rraZpx 0x5A, []) ∧
    decode [0b01111000] = .ok (.sei, []) ∧
    decode [0b01111001, 0x34, 0x12] = .ok (.adcAby 0x1234, []) ∧
    decode [0b01111010] = .ok (.nopImp7A, []) ∧
    decode [0b01111011, 0x34, 0x12] = .ok (.rraAby 0x1234, []) ∧
    decode [0b01111100, 0x34, 0x12] = .ok (.nopAbx7C 0x1234, []) ∧
    decode [0b01111101, 0x34, 0x12] = .ok (.adcAbx 0x1234, []) ∧
    decode [0b01111110, 0x34, 0x12] = .ok (.rorAbx 0x1234, []) ∧
    decode [0b01111111, 0x34, 0x12] = .ok (.rraAbx 0x1234, []) :=
  ⟨rfl, rfl, rfl, rfl, rfl, rfl, rfl, rfl, rfl, rfl, rfl, rfl, rfl, rfl, rfl, rfl⟩

/-- Row 8x of the opcode map (R116). -/
theorem test_decode_row8 :
    decode [0b10000000, 0x5A] = .ok (.nopImm80 0x5A, []) ∧
    decode [0b10000001, 0x5A] = .ok (.staIzx 0x5A, []) ∧
    decode [0b10000010, 0x5A] = .ok (.nopImm82 0x5A, []) ∧
    decode [0b10000011, 0x5A] = .ok (.saxIzx 0x5A, []) ∧
    decode [0b10000100, 0x5A] = .ok (.styZp 0x5A, []) ∧
    decode [0b10000101, 0x5A] = .ok (.staZp 0x5A, []) ∧
    decode [0b10000110, 0x5A] = .ok (.stxZp 0x5A, []) ∧
    decode [0b10000111, 0x5A] = .ok (.saxZp 0x5A, []) ∧
    decode [0b10001000] = .ok (.dey, []) ∧
    decode [0b10001001, 0x5A] = .ok (.nopImm89 0x5A, []) ∧
    decode [0b10001010] = .ok (.txa, []) ∧
    decode [0b10001011, 0x5A] = .ok (.ane 0x5A, []) ∧
    decode [0b10001100, 0x34, 0x12] = .ok (.styAbs 0x1234, []) ∧
    decode [0b10001101, 0x34, 0x12] = .ok (.staAbs 0x1234, []) ∧
    decode [0b10001110, 0x34, 0x12] = .ok (.stxAbs 0x1234, []) ∧
    decode [0b10001111, 0x34, 0x12] = .ok (.saxAbs 0x1234, []) :=
  ⟨rfl, rfl, rfl, rfl, rfl, rfl, rfl, rfl, rfl, rfl, rfl, rfl, rfl, rfl, rfl, rfl⟩

/-- Row 9x of the opcode map (R116). -/
theorem test_decode_row9 :
    decode [0b10010000, 0x5A] = .ok (.bcc 0x5A, []) ∧
    decode [0b10010001, 0x5A] = .ok (.staIzy 0x5A, []) ∧
    decode [0b10010010] = .ok (.jam92, []) ∧
    decode [0b10010011, 0x5A] = .ok (.shaIzy 0x5A, []) ∧
    decode [0b10010100, 0x5A] = .ok (.styZpx 0x5A, []) ∧
    decode [0b10010101, 0x5A] = .ok (.staZpx 0x5A, []) ∧
    decode [0b10010110, 0x5A] = .ok (.stxZpy 0x5A, []) ∧
    decode [0b10010111, 0x5A] = .ok (.saxZpy 0x5A, []) ∧
    decode [0b10011000] = .ok (.tya, []) ∧
    decode [0b10011001, 0x34, 0x12] = .ok (.staAby 0x1234, []) ∧
    decode [0b10011010] = .ok (.txs, []) ∧
    decode [0b10011011, 0x34, 0x12] = .ok (.tas 0x1234, []) ∧
    decode [0b10011100, 0x34, 0x12] = .ok (.shy 0x1234, []) ∧
    decode [0b10011101, 0x34, 0x12] = .ok (.staAbx 0x1234, []) ∧
    decode [0b10011110, 0x34, 0x12] = .ok (.shx 0x1234, []) ∧
    decode [0b10011111, 0x34, 0x12] = .ok (.shaAby 0x1234, []) :=
  ⟨rfl, rfl, rfl, rfl, rfl, rfl, rfl, rfl, rfl, rfl, rfl, rfl, rfl, rfl, rfl, rfl⟩

/-- Row Ax of the opcode map (R116). -/
theorem test_decode_rowA :
    decode [0b10100000, 0x5A] = .ok (.ldyImm 0x5A, []) ∧
    decode [0b10100001, 0x5A] = .ok (.ldaIzx 0x5A, []) ∧
    decode [0b10100010, 0x5A] = .ok (.ldxImm 0x5A, []) ∧
    decode [0b10100011, 0x5A] = .ok (.laxIzx 0x5A, []) ∧
    decode [0b10100100, 0x5A] = .ok (.ldyZp 0x5A, []) ∧
    decode [0b10100101, 0x5A] = .ok (.ldaZp 0x5A, []) ∧
    decode [0b10100110, 0x5A] = .ok (.ldxZp 0x5A, []) ∧
    decode [0b10100111, 0x5A] = .ok (.laxZp 0x5A, []) ∧
    decode [0b10101000] = .ok (.tay, []) ∧
    decode [0b10101001, 0x5A] = .ok (.ldaImm 0x5A, []) ∧
    decode [0b10101010] = .ok (.tax, []) ∧
    decode [0b10101011, 0x5A] = .ok (.lxa 0x5A, []) ∧
    decode [0b10101100, 0x34, 0x12] = .ok (.ldyAbs 0x1234, []) ∧
    decode [0b10101101, 0x34, 0x12] = .ok (.ldaAbs 0x1234, []) ∧
    decode [0b10101110, 0x34, 0x12] = .ok (.ldxAbs 0x1234, []) ∧
    decode [0b10101111, 0x34, 0x12] = .ok (.laxAbs 0x1234, []) :=
  ⟨rfl, rfl, rfl, rfl, rfl, rfl, rfl, rfl, rfl, rfl, rfl, rfl, rfl, rfl, rfl, rfl⟩

/-- Row Bx of the opcode map (R116). -/
theorem test_decode_rowB :
    decode [0b10110000, 0x5A] = .ok (.bcs 0x5A, []) ∧
    decode [0b10110001, 0x5A] = .ok (.ldaIzy 0x5A, []) ∧
    decode [0b10110010] = .ok (.jamB2, []) ∧
    decode [0b10110011, 0x5A] = .ok (.laxIzy 0x5A, []) ∧
    decode [0b10110100, 0x5A] = .ok (.ldyZpx 0x5A, []) ∧
    decode [0b10110101, 0x5A] = .ok (.ldaZpx 0x5A, []) ∧
    decode [0b10110110, 0x5A] = .ok (.ldxZpy 0x5A, []) ∧
    decode [0b10110111, 0x5A] = .ok (.laxZpy 0x5A, []) ∧
    decode [0b10111000] = .ok (.clv, []) ∧
    decode [0b10111001, 0x34, 0x12] = .ok (.ldaAby 0x1234, []) ∧
    decode [0b10111010] = .ok (.tsx, []) ∧
    decode [0b10111011, 0x34, 0x12] = .ok (.las 0x1234, []) ∧
    decode [0b10111100, 0x34, 0x12] = .ok (.ldyAbx 0x1234, []) ∧
    decode [0b10111101, 0x34, 0x12] = .ok (.ldaAbx 0x1234, []) ∧
    decode [0b10111110, 0x34, 0x12] = .ok (.ldxAby 0x1234, []) ∧
    decode [0b10111111, 0x34, 0x12] = .ok (.laxAby 0x1234, []) :=
  ⟨rfl, rfl, rfl, rfl, rfl, rfl, rfl, rfl, rfl, rfl, rfl, rfl, rfl, rfl, rfl, rfl⟩

/-- Row Cx of the opcode map (R116). -/
theorem test_decode_rowC :
    decode [0b11000000, 0x5A] = .ok (.cpyImm 0x5A, []) ∧
    decode [0b11000001, 0x5A] = .ok (.cmpIzx 0x5A, []) ∧
    decode [0b11000010, 0x5A] = .ok (.nopImmC2 0x5A, []) ∧
    decode [0b11000011, 0x5A] = .ok (.dcpIzx 0x5A, []) ∧
    decode [0b11000100, 0x5A] = .ok (.cpyZp 0x5A, []) ∧
    decode [0b11000101, 0x5A] = .ok (.cmpZp 0x5A, []) ∧
    decode [0b11000110, 0x5A] = .ok (.decZp 0x5A, []) ∧
    decode [0b11000111, 0x5A] = .ok (.dcpZp 0x5A, []) ∧
    decode [0b11001000] = .ok (.iny, []) ∧
    decode [0b11001001, 0x5A] = .ok (.cmpImm 0x5A, []) ∧
    decode [0b11001010] = .ok (.dex, []) ∧
    decode [0b11001011, 0x5A] = .ok (.sbx 0x5A, []) ∧
    decode [0b11001100, 0x34, 0x12] = .ok (.cpyAbs 0x1234, []) ∧
    decode [0b11001101, 0x34, 0x12] = .ok (.cmpAbs 0x1234, []) ∧
    decode [0b11001110, 0x34, 0x12] = .ok (.decAbs 0x1234, []) ∧
    decode [0b11001111, 0x34, 0x12] = .ok (.dcpAbs 0x1234, []) :=
  ⟨rfl, rfl, rfl, rfl, rfl, rfl, rfl, rfl, rfl, rfl, rfl, rfl, rfl, rfl, rfl, rfl⟩

/-- Row Dx of the opcode map (R116). -/
theorem test_decode_rowD :
    decode [0b11010000, 0x5A] = .ok (.bne 0x5A, []) ∧
    decode [0b11010001, 0x5A] = .ok (.cmpIzy 0x5A, []) ∧
    decode [0b11010010] = .ok (.jamD2, []) ∧
    decode [0b11010011, 0x5A] = .ok (.dcpIzy 0x5A, []) ∧
    decode [0b11010100, 0x5A] = .ok (.nopZpxD4 0x5A, []) ∧
    decode [0b11010101, 0x5A] = .ok (.cmpZpx 0x5A, []) ∧
    decode [0b11010110, 0x5A] = .ok (.decZpx 0x5A, []) ∧
    decode [0b11010111, 0x5A] = .ok (.dcpZpx 0x5A, []) ∧
    decode [0b11011000] = .ok (.cld, []) ∧
    decode [0b11011001, 0x34, 0x12] = .ok (.cmpAby 0x1234, []) ∧
    decode [0b11011010] = .ok (.nopImpDA, []) ∧
    decode [0b11011011, 0x34, 0x12] = .ok (.dcpAby 0x1234, []) ∧
    decode [0b11011100, 0x34, 0x12] = .ok (.nopAbxDC 0x1234, []) ∧
    decode [0b11011101, 0x34, 0x12] = .ok (.cmpAbx 0x1234, []) ∧
    decode [0b11011110, 0x34, 0x12] = .ok (.decAbx 0x1234, []) ∧
    decode [0b11011111, 0x34, 0x12] = .ok (.dcpAbx 0x1234, []) :=
  ⟨rfl, rfl, rfl, rfl, rfl, rfl, rfl, rfl, rfl, rfl, rfl, rfl, rfl, rfl, rfl, rfl⟩

/-- Row Ex of the opcode map (R116). -/
theorem test_decode_rowE :
    decode [0b11100000, 0x5A] = .ok (.cpxImm 0x5A, []) ∧
    decode [0b11100001, 0x5A] = .ok (.sbcIzx 0x5A, []) ∧
    decode [0b11100010, 0x5A] = .ok (.nopImmE2 0x5A, []) ∧
    decode [0b11100011, 0x5A] = .ok (.iscIzx 0x5A, []) ∧
    decode [0b11100100, 0x5A] = .ok (.cpxZp 0x5A, []) ∧
    decode [0b11100101, 0x5A] = .ok (.sbcZp 0x5A, []) ∧
    decode [0b11100110, 0x5A] = .ok (.incZp 0x5A, []) ∧
    decode [0b11100111, 0x5A] = .ok (.iscZp 0x5A, []) ∧
    decode [0b11101000] = .ok (.inx, []) ∧
    decode [0b11101001, 0x5A] = .ok (.sbcImm 0x5A, []) ∧
    decode [0b11101010] = .ok (.nopImp, []) ∧
    decode [0b11101011, 0x5A] = .ok (.sbcImmEB 0x5A, []) ∧
    decode [0b11101100, 0x34, 0x12] = .ok (.cpxAbs 0x1234, []) ∧
    decode [0b11101101, 0x34, 0x12] = .ok (.sbcAbs 0x1234, []) ∧
    decode [0b11101110, 0x34, 0x12] = .ok (.incAbs 0x1234, []) ∧
    decode [0b11101111, 0x34, 0x12] = .ok (.iscAbs 0x1234, []) :=
  ⟨rfl, rfl, rfl, rfl, rfl, rfl, rfl, rfl, rfl, rfl, rfl, rfl, rfl, rfl, rfl, rfl⟩

/-- Row Fx of the opcode map (R116). -/
theorem test_decode_rowF :
    decode [0b11110000, 0x5A] = .ok (.beq 0x5A, []) ∧
    decode [0b11110001, 0x5A] = .ok (.sbcIzy 0x5A, []) ∧
    decode [0b11110010] = .ok (.jamF2, []) ∧
    decode [0b11110011, 0x5A] = .ok (.iscIzy 0x5A, []) ∧
    decode [0b11110100, 0x5A] = .ok (.nopZpxF4 0x5A, []) ∧
    decode [0b11110101, 0x5A] = .ok (.sbcZpx 0x5A, []) ∧
    decode [0b11110110, 0x5A] = .ok (.incZpx 0x5A, []) ∧
    decode [0b11110111, 0x5A] = .ok (.iscZpx 0x5A, []) ∧
    decode [0b11111000] = .ok (.sed, []) ∧
    decode [0b11111001, 0x34, 0x12] = .ok (.sbcAby 0x1234, []) ∧
    decode [0b11111010] = .ok (.nopImpFA, []) ∧
    decode [0b11111011, 0x34, 0x12] = .ok (.iscAby 0x1234, []) ∧
    decode [0b11111100, 0x34, 0x12] = .ok (.nopAbxFC 0x1234, []) ∧
    decode [0b11111101, 0x34, 0x12] = .ok (.sbcAbx 0x1234, []) ∧
    decode [0b11111110, 0x34, 0x12] = .ok (.incAbx 0x1234, []) ∧
    decode [0b11111111, 0x34, 0x12] = .ok (.iscAbx 0x1234, []) :=
  ⟨rfl, rfl, rfl, rfl, rfl, rfl, rfl, rfl, rfl, rfl, rfl, rfl, rfl, rfl, rfl, rfl⟩

/-! ### One step per mnemonic -/

/-- What a field of the next state is. -/
def after {α : Type} (i : Instr) (s : State) (f : State → α) : Option α :=
  match exec i s with
  | .next t => some (f t)
  | _ => none

/-- The state the rules' examples start from: PC = $C000, P = $24, S = $FD, and the bytes of RAM given. -/
def start (ram : Memory) : State :=
  { State.reset with pc := 0xC000, ram := ram, setup := { Setup.reset with kernalRom := [(0x1FFA, 0x43), (0x1FFB, 0xFE), (0x1FFE, 0x48), (0x1FFF, 0xFF)] } }

/-- R170. -/
theorem test_lda : after (.ldaImm 0x80) (start [])
    (fun t => (t.a, t.p, t.pc)) = some (0x80, 0xA4, 0xC002) := by decide

/-- R158, R401: LDA $12FF,X with X = 1, base 4 + 1. -/
theorem test_lda_cross : after (.ldaAbx 0x12FF) { start [(0x1300, 0x77)] with x := 0x01 }
    (fun t => (t.a, t.report)) = some (0x77, .cycles 5) := by decide

/-- R171. -/
theorem test_ldx : after (.ldxImm 0x00) { start [] with p := 0xA4 }
    (fun t => (t.x, t.p)) = some (0x00, 0x26) := by decide

/-- R172. -/
theorem test_ldy : after (.ldyImm 0x7F) (start [])
    (fun t => (t.y, t.p)) = some (0x7F, 0x24) := by decide

/-- R173. -/
theorem test_sta : after (.staAbs 0x0200) { start [] with a := 0x5A }
    (fun t => (ramByte t 0x0200, t.p)) = some (0x5A, 0x24) := by decide

/-- R32, R173: a store of $34 to $0001 clears LORAM and HIRAM and sets CHAREN. -/
theorem test_sta_latch : after (.staZp 0x01) { start [] with a := 0x34 }
    (fun t => t.latch) = some ⟨false, false, true, true, true⟩ := by decide

/-- R174. -/
theorem test_stx : after (.stxZp 0x10) { start [] with x := 0xFF }
    (fun t => ramByte t 0x0010) = some 0xFF := by decide

/-- R175. -/
theorem test_sty : after (.styAbs 0x1234) { start [] with y := 0x01 }
    (fun t => ramByte t 0x1234) = some 0x01 := by decide

/-- R176. -/
theorem test_tax : after (.tax) { start [] with a := 0x00 }
    (fun t => (t.x, t.p)) = some (0x00, 0x26) := by decide

/-- R177. -/
theorem test_tay : after (.tay) { start [] with a := 0x90 }
    (fun t => (t.y, t.p)) = some (0x90, 0xA4) := by decide

/-- R178. -/
theorem test_txa : after (.txa) { start [] with x := 0x01, p := 0xA6 }
    (fun t => (t.a, t.p)) = some (0x01, 0x24) := by decide

/-- R179. -/
theorem test_tya : after (.tya) { start [] with y := 0xFF }
    (fun t => (t.a, t.p)) = some (0xFF, 0xA4) := by decide

/-- R180. -/
theorem test_tsx : after (.tsx) (start [])
    (fun t => (t.x, t.p)) = some (0xFD, 0xA4) := by decide

/-- R181. -/
theorem test_txs : after (.txs) { start [] with x := 0xFF }
    (fun t => (t.sp, t.p)) = some (0xFF, 0x24) := by decide

/-- R190. -/
theorem test_pha : after (.pha) { start [] with a := 0xAB }
    (fun t => (ramByte t 0x01FD, t.sp)) = some (0xAB, 0xFC) := by decide

/-- R191. -/
theorem test_php : after (.php) (start [])
    (fun t => (ramByte t 0x01FD, t.sp, t.p)) = some (0x34, 0xFC, 0x24) := by decide

/-- R192. -/
theorem test_pla : after (.pla) { start [(0x01FD, 0x00)] with sp := 0xFC }
    (fun t => (t.a, t.sp, t.p)) = some (0x00, 0xFD, 0x26) := by decide

/-- R193. -/
theorem test_plp : after (.plp) { start [(0x01FD, 0xC3)] with sp := 0xFC }
    (fun t => (t.p, t.sp)) = some (0xE3, 0xFD) := by decide

/-- R205, the document's example. -/
theorem test_adc_decimal : after (.adcImm 0x01) { start [] with a := 0x09, p := 0x28 }
    (fun t => (t.a, t.p)) = some (0x10, 0x28) := by decide

/-- R211: $80 + $80. -/
theorem test_adc_overflow : after (.adcImm 0x80) { start [] with a := 0x80 }
    (fun t => (t.a, t.p)) = some (0x00, 0x67) := by decide

/-- R206. -/
theorem test_sbc : after (.sbcImm 0x03) { start [] with a := 0x05, p := 0x25 }
    (fun t => (t.a, t.p)) = some (0x02, 0x25) := by decide

/-- R303. -/
theorem test_sbc_dup : after (.sbcImmEB 0x01) { start [] with a := 0x10, p := 0x25 }
    (fun t => (t.a, t.p)) = some (0x0F, 0x25) := by decide

/-- R207. -/
theorem test_cmp : after (.cmpImm 0x10) { start [] with a := 0x10 }
    (fun t => t.p) = some 0x27 := by decide

/-- R208. -/
theorem test_cpx : after (.cpxImm 0x05) { start [] with x := 0x03 }
    (fun t => t.p) = some 0xA4 := by decide

/-- R209. -/
theorem test_cpy : after (.cpyImm 0x00) { start [] with y := 0x80 }
    (fun t => t.p) = some 0xA5 := by decide

/-- R220. -/
theorem test_and : after (.andImm 0x0F) { start [] with a := 0xF0, p := 0xA4 }
    (fun t => (t.a, t.p)) = some (0x00, 0x26) := by decide

/-- R221. -/
theorem test_ora : after (.oraImm 0x80) { start [] with a := 0x01 }
    (fun t => (t.a, t.p)) = some (0x81, 0xA4) := by decide

/-- R222. -/
theorem test_eor : after (.eorImm 0xFF) { start [] with a := 0x55 }
    (fun t => (t.a, t.p)) = some (0xAA, 0xA4) := by decide

/-- R223. -/
theorem test_bit : after (.bitZp 0x10) { start [(0x10, 0x40)] with a := 0x01 }
    (fun t => (t.a, t.p)) = some (0x01, 0x66) := by decide

/-- R230. -/
theorem test_asl : after (.aslAcc) { start [] with a := 0x81 }
    (fun t => (t.a, t.p)) = some (0x02, 0x25) := by decide

/-- R231. -/
theorem test_lsr : after (.lsrAcc) { start [] with a := 0x03, p := 0xA4 }
    (fun t => (t.a, t.p)) = some (0x01, 0x25) := by decide

/-- R232. -/
theorem test_rol : after (.rolAcc) { start [] with a := 0x40, p := 0x25 }
    (fun t => (t.a, t.p)) = some (0x81, 0xA4) := by decide

/-- R233. -/
theorem test_ror : after (.rorAcc) { start [] with a := 0x01, p := 0x25 }
    (fun t => (t.a, t.p)) = some (0x80, 0xA5) := by decide

/-- R234. -/
theorem test_inc : after (.incZp 0x10) (start [(0x10, 0xFF)])
    (fun t => (ramByte t 0x0010, t.p)) = some (0x00, 0x26) := by decide

/-- R235. -/
theorem test_dec : after (.decZp 0x10) (start [(0x10, 0x00)])
    (fun t => (ramByte t 0x0010, t.p)) = some (0xFF, 0xA4) := by decide

/-- R236. -/
theorem test_inx : after (.inx) { start [] with x := 0xFF }
    (fun t => (t.x, t.p)) = some (0x00, 0x26) := by decide

/-- R237. -/
theorem test_iny : after (.iny) { start [] with y := 0x7F }
    (fun t => (t.y, t.p)) = some (0x80, 0xA4) := by decide

/-- R238. -/
theorem test_dex : after (.dex) { start [] with x := 0x01 }
    (fun t => (t.x, t.p)) = some (0x00, 0x26) := by decide

/-- R239. -/
theorem test_dey : after (.dey) { start [] with y := 0x00, p := 0x26 }
    (fun t => (t.y, t.p)) = some (0xFF, 0xA4) := by decide

/-- R250, the page-wrap bug. -/
theorem test_jmp : after (.jmpInd 0x12FF) (start [(0x1200, 0x56), (0x12FF, 0x34), (0x1300, 0x78)])
    (fun t => t.pc) = some 0x5634 := by decide

/-- R251. -/
theorem test_jsr : after (.jsr 0x1234) (start [])
    (fun t => (ramByte t 0x01FD, ramByte t 0x01FC, t.sp, t.pc)) = some (0xC0, 0x02, 0xFB, 0x1234) := by decide

/-- R252. -/
theorem test_rts : after (.rts) { start [(0x01FC, 0x02), (0x01FD, 0xC0)] with sp := 0xFB }
    (fun t => (t.sp, t.pc)) = some (0xFD, 0xC003) := by decide

/-- R253. -/
theorem test_rti : after (.rti) { start [(0x01FB, 0x21), (0x01FC, 0x03), (0x01FD, 0xC0)] with sp := 0xFA }
    (fun t => (t.p, t.sp, t.pc)) = some (0x21, 0xFD, 0xC003) := by decide

/-- R254. -/
theorem test_brk : after (.brk) (start [])
    (fun t => (ramByte t 0x01FD, ramByte t 0x01FC, ramByte t 0x01FB, t.sp, t.p, t.pc)) = some (0xC0, 0x02, 0x34, 0xFA, 0x34, 0xFF48) := by decide

/-- R256. -/
theorem test_bpl : after (.bpl 0x02) (start [])
    (fun t => t.pc) = some 0xC004 := by decide

/-- R257. -/
theorem test_bmi : after (.bmi 0x02) (start [])
    (fun t => t.pc) = some 0xC002 := by decide

/-- R258. -/
theorem test_bvc : after (.bvc 0x10) (start [])
    (fun t => t.pc) = some 0xC012 := by decide

/-- R259. -/
theorem test_bvs : after (.bvs 0x10) { start [] with p := 0x64 }
    (fun t => t.pc) = some 0xC012 := by decide

/-- R260. -/
theorem test_bcc : after (.bcc 0x80) (start [])
    (fun t => (t.pc, t.report)) = some (0xBF82, .cycles 4) := by decide

/-- R261. -/
theorem test_bcs : after (.bcs 0x04) { start [] with p := 0x25 }
    (fun t => t.pc) = some 0xC006 := by decide

/-- R262. -/
theorem test_bne : after (.bne 0xFD) { start [] with pc := 0xC005 }
    (fun t => t.pc) = some 0xC004 := by decide

/-- R255. -/
theorem test_beq : after (.beq 0x7F) { start [] with pc := 0xC0F0, p := 0x26 }
    (fun t => (t.pc, t.report)) = some (0xC171, .cycles 4) := by decide

/-- R280. -/
theorem test_clc : after (.clc) { start [] with p := 0x25 }
    (fun t => t.p) = some 0x24 := by decide

/-- R281. -/
theorem test_sec : after (.sec) (start [])
    (fun t => t.p) = some 0x25 := by decide

/-- R282. -/
theorem test_cli : after (.cli) (start [])
    (fun t => t.p) = some 0x20 := by decide

/-- R283. -/
theorem test_sei : after (.sei) { start [] with p := 0x20 }
    (fun t => t.p) = some 0x24 := by decide

/-- R284. -/
theorem test_cld : after (.cld) { start [] with p := 0x2C }
    (fun t => t.p) = some 0x24 := by decide

/-- R285. -/
theorem test_sed : after (.sed) (start [])
    (fun t => t.p) = some 0x2C := by decide

/-- R286. -/
theorem test_clv : after (.clv) { start [] with p := 0x64 }
    (fun t => t.p) = some 0x24 := by decide

/-- R287. -/
theorem test_nop : after (.nopImp) (start [])
    (fun t => (t.pc, t.p, t.report)) = some (0xC001, 0x24, .cycles 2) := by decide

/-- R304: reads $1300, 5 cycles, PC + 3. -/
theorem test_nop_abx : after (.nopAbx1C 0x12FF) { start [] with x := 0x01 }
    (fun t => (t.pc, t.report)) = some (0xC003, .cycles 5) := by decide

/-- R291. -/
theorem test_slo : after (.sloZp 0x10) { start [(0x10, 0x81)] with a := 0x01 }
    (fun t => (ramByte t 0x0010, t.a, t.p)) = some (0x02, 0x03, 0x25) := by decide

/-- R292. -/
theorem test_rla : after (.rlaZp 0x10) { start [(0x10, 0x40)] with a := 0xFF, p := 0x25 }
    (fun t => (ramByte t 0x0010, t.a, t.p)) = some (0x81, 0x81, 0xA4) := by decide

/-- R293. -/
theorem test_sre : after (.sreZp 0x10) { start [(0x10, 0x03)] with a := 0xFF }
    (fun t => (ramByte t 0x0010, t.a, t.p)) = some (0x01, 0xFE, 0xA5) := by decide

/-- R294. -/
theorem test_rra : after (.rraZp 0x10) { start [(0x10, 0x03)] with a := 0x10, p := 0x25 }
    (fun t => (ramByte t 0x0010, t.a, t.p)) = some (0x81, 0x92, 0xA4) := by decide

/-- R297. -/
theorem test_dcp : after (.dcpZp 0x10) { start [(0x10, 0x41)] with a := 0x40 }
    (fun t => (ramByte t 0x0010, t.p)) = some (0x40, 0x27) := by decide

/-- R298. -/
theorem test_isc : after (.iscZp 0x10) { start [(0x10, 0x08)] with a := 0x20, p := 0x2D }
    (fun t => (ramByte t 0x0010, t.a, t.p)) = some (0x09, 0x11, 0x2D) := by decide

/-- R295. -/
theorem test_sax : after (.saxZp 0x10) { start [] with a := 0xF0, x := 0x3C }
    (fun t => ramByte t 0x0010) = some 0x30 := by decide

/-- R296. -/
theorem test_lax : after (.laxAby 0x12FF) { start [(0x1300, 0x00)] with y := 0x01 }
    (fun t => (t.a, t.x, t.p, t.report)) = some (0x00, 0x00, 0x26, .cycles 5) := by decide

/-- R305. -/
theorem test_las : after (.las 0x2000) { start [(0x2000, 0x8F)] with sp := 0xF0 }
    (fun t => (t.a, t.x, t.sp, t.p)) = some (0x80, 0x80, 0x80, 0xA4) := by decide

/-- R299. -/
theorem test_anc : after (.ancImm2B 0x7F) { start [] with a := 0xC0, p := 0x25 }
    (fun t => (t.a, t.p)) = some (0x40, 0x24) := by decide

/-- R300. -/
theorem test_alr : after (.alr 0x03) { start [] with a := 0xFF, p := 0xA4 }
    (fun t => (t.a, t.p)) = some (0x01, 0x25) := by decide

/-- R301, binary. -/
theorem test_arr : after (.arr 0xFF) { start [] with a := 0x40, p := 0x25 }
    (fun t => (t.a, t.p)) = some (0xA0, 0xE4) := by decide

/-- R301, decimal. -/
theorem test_arr_decimal : after (.arr 0xFF) { start [] with a := 0xAA, p := 0x2D }
    (fun t => (t.a, t.p)) = some (0x3B, 0xED) := by decide

/-- R302. -/
theorem test_sbx : after (.sbx 0x10) { start [] with a := 0x0F, x := 0x0F, p := 0x25 }
    (fun t => (t.x, t.p)) = some (0xFF, 0xA4) := by decide

/-- R311, S alone: the stored value is free. -/
theorem test_tas : after (.tas 0x2000) { start [] with a := 0xF3, x := 0x3F }
    (fun t => (t.sp, t.pc, t.report)) = some (0x33, 0xC003, .cycles 5) := by decide

/-- R312. -/
theorem test_jam : after (.jam02) (start [])
    (fun t => (t.pc, t.halted, t.report, t.cycles)) = some (0xC000, true, .halt, 0) := by decide

/-- R306: ANE with operand 0 is the magic-free case. -/
theorem test_ane (a x : Byte) : after (.ane 0x00) { start [] with a := a, x := x } (fun t => t.a) = some 0x00 := by
  simp [after, exec, execAne, opAne, readOp, resolve, Resolved.direct, Instr.operand, Instr.row, operandByte, afterOperand,
    retire, account, drawn, loadA]

/-- R307: LXA with operand 0 likewise. -/
theorem test_lxa (a : Byte) : after (.lxa 0x00) { start [] with a := a } (fun t => (t.a, t.x)) = some (0x00, 0x00) := by
  simp [after, exec, execLxa, opLxa, readOp, resolve, Resolved.direct, Instr.operand, Instr.row, operandByte, afterOperand,
    retire, account, drawn, loadX]

/-- R308 to R310: length and cycles are defined, the value is free. -/
theorem test_unstable_stores :
    after (.shaAby 0x2000) (start []) (fun t => (t.pc, t.report)) = some (0xC003, .cycles 5) ∧
      after (.shaIzy 0x20) (start [(0x20, 0x00), (0x21, 0x30)]) (fun t => (t.pc, t.report)) = some (0xC002, .cycles 6) ∧
      after (.shx 0x2000) (start []) (fun t => (t.pc, t.report)) = some (0xC003, .cycles 5) ∧
      after (.shy 0x2000) (start []) (fun t => (t.pc, t.report)) = some (0xC003, .cycles 5) := ⟨rfl, rfl, rfl, rfl⟩

/-! ### Steps: the fetch, the events -/

/-- What a field of the next state of a step is. -/
def afterStep {α : Type} (s : State) (f : State → α) : Option α :=
  match step s with
  | .next t => some (f t)
  | _ => none

/-- The host's load of `A9 80` runs as LDA #$80 (R170, R392). -/
theorem test_step_lda :
    afterStep ({ start [] with pc := 0x1111 }.withFetchWord 16 0x80A9) (fun t => (t.a, t.p, t.pc)) =
      some (0x80, 0xA4, 0xC002) := by decide

/-- The host's numbering: a later byte's bits count on from the first (opcode_table.json). -/
theorem test_decode_table_word :
    decodeTableWord 24 0x12FF6C = some (.jmpInd 0x12FF) ∧ decodeTableWord 8 0xEA = some .nopImp := ⟨rfl, rfl⟩

/-- R337's example. -/
theorem test_irq :
    afterStep { start [] with pc := 0xC123, p := 0x22, env := [.irq] }
        (fun t => (ramByte t 0x01FD, ramByte t 0x01FC, ramByte t 0x01FB, t.sp, t.p, t.pc)) =
      some (0xC1, 0x23, 0x22, 0xFA, 0x26, 0xFF48) := by decide

/-- R338's example. -/
theorem test_nmi :
    afterStep { start [] with pc := 0xC123, env := [.nmi] }
        (fun t => (ramByte t 0x01FD, ramByte t 0x01FC, ramByte t 0x01FB, t.sp, t.p, t.pc)) =
      some (0xC1, 0x23, 0x24, 0xFA, 0x34, 0xFE43) := by decide

/-- A held step reports 0 and leaves PC (R353); a held JAM halts (R341). -/
theorem test_hold :
    afterStep { start [(0xC000, 0xE8)] with env := [.instr true] } (fun t => (t.pc, t.x, t.report)) =
        some (0xC000, 0x00, .cycles 0) ∧
      afterStep { start [(0xC000, 0x02)] with env := [.instr true] } (fun t => (t.pc, t.halted, t.report)) =
        some (0xC000, true, .halt) := by decide

/-- R392: `0x01,0x08` with three data bytes, and a pointer at $2D (the address is general knowledge, R392). -/
theorem test_load_program :
    afterStep { start [] with env := [.loadProgram [0x01, 0x08, 0xAA, 0xBB, 0xCC] [0x002D]] }
        (fun t => (ramByte t 0x0801, ramByte t 0x0803, ramByte t 0x002D, ramByte t 0x002E)) =
      some (0xAA, 0xCC, 0x04, 0x08) := by decide

/-- R67's worked case: mode 27, then mode 24. -/
theorem test_classify_worked_case :
    classify (latchOfMode 27) 0xA000 = .basicRom ∧ classify (latchOfMode 27) 0xFFFF = .kernalRom ∧
      classify (latchOfMode 24) 0xA000 = .ram ∧ classify (latchOfMode 24) 0xFFFF = .ram := by decide

/-- R74: INC $A000 in mode 31 reads the ROM and writes the RAM underneath. -/
theorem test_inc_under_rom :
    after (.incAbs 0xA000) { start [] with setup := { Setup.reset with basicRom := [(0, 0x94)] } }
        (fun t => (ramByte t 0xA000, peek t 0xA000)) = some (0x95, 0x94) := by decide

/-- R211, decimal ADC: A, M, carry in; A, N, V, Z, C out. -/
theorem test_decimal_addition_table :
    [
      (0x09#8, 0x01, false, 0x10, false, false, false, false),
      (0x58, 0x46, true, 0x05, true, true, false, true),
      (0x12, 0x34, false, 0x46, false, false, false, false),
      (0x15, 0x26, false, 0x41, false, false, false, false),
      (0x81, 0x92, false, 0x73, false, true, false, true),
      (0x99, 0x01, false, 0x00, true, false, false, true),
      (0x99, 0x99, true, 0x99, false, true, false, true),
      (0x79, 0x00, true, 0x80, true, true, false, false),
      (0x24, 0x56, false, 0x80, true, true, false, false),
      (0x93, 0x82, false, 0x75, false, true, false, true),
      (0x89, 0x76, false, 0x65, false, false, false, true),
      (0x80, 0xF0, false, 0xD0, false, true, false, true),
      (0x0F, 0x0F, false, 0x14, false, false, false, false),
      (0x00, 0x00, false, 0x00, false, false, true, false),
      (0x50, 0x50, false, 0x00, true, true, false, true),
      (0x49, 0x50, true, 0x00, true, true, false, true)].all
      (fun (a, m, c, r, n, v, z, co) => addDecimal a m c == ⟨r, n, v, z, co⟩) = true := rfl

/-- R211, decimal SBC: A, M, carry in; A, N, V, Z, C out. -/
theorem test_decimal_subtraction_table :
    [
      (0x46#8, 0x12, true, 0x34, false, false, false, true),
      (0x40, 0x13, true, 0x27, false, false, false, true),
      (0x32, 0x02, false, 0x29, false, false, false, true),
      (0x12, 0x21, true, 0x91, true, false, false, false),
      (0x21, 0x34, true, 0x87, true, false, false, false),
      (0x00, 0x01, true, 0x99, true, false, false, false),
      (0x00, 0x00, false, 0x99, true, false, false, false),
      (0x10, 0x01, true, 0x09, false, false, false, true),
      (0x99, 0x99, true, 0x00, false, false, true, true),
      (0x0A, 0x00, true, 0x0A, false, false, false, true),
      (0x00, 0x0F, true, 0x9B, true, false, false, false)].all
      (fun (a, m, c, r, n, v, z, co) => subDecimal a m c == ⟨r, n, v, z, co⟩) = true := rfl

/-- R7, U1: a reset under the other RESET_P leaves P = $20; R44: under the default $24. -/
theorem test_reset_p :
    afterStep { start [] with setup := { Setup.reset with resetP := .unusedOnly }, p := 0xFF, env := [.reset] }
        (fun t => t.p) = some 0x20 ∧
      afterStep { start [] with p := 0xFF, env := [.reset] } (fun t => t.p) = some 0x24 := by decide

/-- R7, R400: a supplied base count is the one reported, and the penalty comes on top; another opcode keeps R116's. -/
theorem test_cycle_table :
    let s := { start [] with x := 0x01, setup := { Setup.reset with cycleTable := [(0xBD, 6), (0xEA, 1)] } }
    after (.ldaAbx 0x12FF) s (fun t => (t.cycles, t.report)) = some (7, .cycles 7) ∧
      after .nopImp s (fun t => t.report) = some (.cycles 1) ∧ after .inx s (fun t => t.report) = some (.cycles 2) := by
  decide

/-- R385: `JMP *` and a taken branch with offset $FE stall, with an IRQ request to come too. -/
theorem test_stalls :
    Stalls { start [(0xC000, 0x4C), (0xC001, 0x00), (0xC002, 0xC0)] with env := [.irq] } ∧
      Stalls (start [(0xC000, 0xD0), (0xC001, 0xFE)]) :=
  ⟨⟨rfl, _, rfl, by decide⟩, rfl, _, rfl, by decide⟩

/-- R385: a NOP is no stall, whatever turn that leaves PC comes before it; a halted core takes no step (R110). -/
theorem test_no_stall :
    ¬ Stalls { start [(0xC000, 0xEA)] with env := [.rawWrite 0x1000 0x00] } ∧
      ¬ Stalls { start [(0xC000, 0xEA)] with halted := true } := by
  refine ⟨?_, fun h => nomatch h.1⟩
  rintro ⟨-, t, h, hpc⟩
  injection h with h
  subst h
  revert hpc
  decide

/-! ### Witnesses: states and operands that meet the hypotheses of each statement that has any, clause by clause -/

/-- A small program at $C000 with the vectors of `start`: LDA #$80. -/
def witnessState : State := start [(0xC000, 0xA9), (0xC001, 0x80)]

/-- `witnessState` with other turns of the environment to come. -/
def witnessTurn (turns : List Turn) : State := { witnessState with env := turns }

/-- `witnessState`, halted. -/
def witnessHalted (turns : List Turn) : State := { witnessTurn turns with halted := true }

theorem witness_EncodeOfDecode : decode [0x6C, 0xFF, 0x12, 0xEA] = .ok (.jmpInd 0x12FF, [0xEA]) := rfl

theorem witness_EveryOpcodeDecodes :
    codeFlaw [0xA9] = some .tooShort ∧ codeFlaw [0xAD] = some .tooShort ∧ codeFlaw [0xAD, 0x00] = some .tooShort := by decide

theorem witness_StepRunsDecodedInstruction :
    Running witnessState ∧ decode (readBytes 2 witnessState.pc witnessState).1 = .ok (.ldaImm 0x80, []) ∧
      (Instr.ldaImm 0x80).size = 2 ∧
      ∀ k, k < 2 → selectsPort witnessState (witnessState.pc + BitVec.ofNat 16 k) = false :=
  ⟨⟨rfl, rfl⟩, rfl, rfl, by decide⟩

theorem witness_StepKeepsInvariant : Inv witnessState ∧ ∃ t, step witnessState = .next t :=
  ⟨⟨by unfold MemoriesWf; decide, by decide, by unfold UnusedSet; decide⟩, _, rfl⟩

theorem witness_SetupNeverChanges : ∃ t, step witnessState = .next t := ⟨_, rfl⟩

theorem witness_LatchFollowsControlByte :
    (∃ t, exec (.staZp 0x01) witnessState = .next t ∧ t.latch ≠ witnessState.latch) ∧
      ∃ t, exec (.staZp 0x02) witnessState = .next t ∧ t.latch = witnessState.latch :=
  ⟨⟨_, rfl, by decide⟩, _, rfl, by decide⟩

theorem witness_HaltedFlag :
    (∃ t, exec .jam02 witnessState = .next t ∧ t.halted = true) ∧
      ((witnessHalted []).halted = true ∧ (witnessHalted []).env = [] ∧ ∃ t, step (witnessHalted []) = .next t) ∧
      ((witnessHalted [.instr true]).halted = true ∧ (witnessHalted [.instr true]).env = [.instr true]) ∧
      ∃ t, step (witnessHalted [.reset]) = .next t ∧ t.halted = false :=
  ⟨⟨_, rfl, rfl⟩, ⟨rfl, rfl, _, rfl⟩, ⟨rfl, rfl⟩, _, rfl, rfl⟩

theorem witness_WritersOfFlagsAndRegisters :
    (∃ t, exec .sec witnessState = .next t ∧ getFlag .c t.p ≠ getFlag .c witnessState.p) ∧
      ∃ t, exec .inx witnessState = .next t ∧ t.reg .x ≠ witnessState.reg .x :=
  ⟨⟨_, rfl, by decide⟩, _, rfl, by decide⟩

/-- Two addresses of one page, and the first and last address of every page range: no value lies in two ranges. -/
theorem witness_ClassifyByPage :
    (0x0F00#16).toNat / 256 = (0x0FFF#16).toNat / 256 ∧
      ([0x0000#16, 0x0FFF, 0x1000, 0x7FFF, 0x8000, 0x9FFF, 0xA000, 0xBFFF, 0xC000, 0xCFFF, 0xD000, 0xDFFF, 0xE000,
        0xFFFF].map fun a => a.toNat / 256) = [0, 15, 16, 127, 128, 159, 160, 191, 192, 207, 208, 223, 224, 255] := by decide

theorem witness_ClassifyIsTheModeTable : 0 < 32 ∧ 31 < 32 ∧ latchOfMode 31 = Latch.reset := by decide

/-- Every region at the edges of its range; the mode numbers are R66's. -/
theorem witness_ReadByRegion :
    (classify (latchOfMode 31) 0xA000 = .basicRom ∧ classify (latchOfMode 31) 0xBFFF = .basicRom) ∧
      (classify (latchOfMode 31) 0xE000 = .kernalRom ∧ classify (latchOfMode 31) 0xFFFF = .kernalRom) ∧
      (classify (latchOfMode 27) 0xD000 = .charsetRom ∧ classify (latchOfMode 27) 0xDFFF = .charsetRom) ∧
      (classify (latchOfMode 31) 0xD000 = .ioDevices ∧ classify (latchOfMode 31) 0xDFFF = .ioDevices ∧
        witnessState.latch = latchOfMode 31 ∧ witnessState.setup.devicePort = true) ∧
      { witnessState with setup := { Setup.reset with devicePort := false } }.setup.devicePort = false ∧
      classify (latchOfMode 31) 0x0000 = .ram ∧ classify (latchOfMode 15) 0x8000 = .cartRomLo ∧
      classify (latchOfMode 15) 0x9FFF = .cartRomLo ∧ classify (latchOfMode 7) 0xA000 = .cartRomHi ∧
      classify (latchOfMode 16) 0xE000 = .cartRomHi ∧ classify (latchOfMode 16) 0x1000 = .undefined ∧
      classify (latchOfMode 16) 0xCFFF = .undefined := by decide

/-- A store under the BASIC ROM, then RAM selected there (mode 24), or the ROM still (mode 31). -/
theorem witness_RomIsNeverWritten :
    classify witnessState.latch 0xA000 = .basicRom ∧ classify (latchOfMode 24) 0xA000 = .ram ∧
      classify (latchOfMode 31) 0xA000 = .basicRom := by decide

theorem witness_ZeroPageModes :
    (Instr.ldxZpy 0x10).operand = .zpy 0x10 ∧ (Instr.saxZpy 0xFF).operand = .zpy 0xFF := by decide

/-- An immediate, an absolute, an accumulator and a relative operand. -/
theorem witness_AbsoluteIndexedModes :
    (Instr.ldaImm 0x80).operand = .imm 0x80 ∧ (∀ v, (Instr.ldaAbs 0x1234).operand ≠ .imm v) ∧
      Instr.aslAcc.operand = .acc ∧ (Instr.bpl 0xFE).operand = .rel 0xFE :=
  ⟨rfl, fun _ h => (nomatch h : False), rfl, rfl⟩

/-- A reader and a writer, each with its index crossing a page; a base count supplied, and one not. -/
theorem witness_PageCrossPenalty :
    let s := { witnessState with x := 0x01, y := 0xFF }
    (∃ t, exec (.ldaAbx 0x12FF) s = .next t) ∧ crosses (.ldaAbx 0x12FF) s = true ∧
      tagOf (Instr.ldaAbx 0x12FF).operand = .abx ∧
      ({ Setup.reset with cycleTable := [(0xBD, 6)] }.cycleTable.lookup (Instr.ldaAbx 0x12FF).opcode = some 6 ∧
        s.setup.cycleTable.lookup (Instr.ldaAbx 0x12FF).opcode = none) ∧
      (∃ t, exec (.staAby 0x1201) s = .next t) ∧ crosses (.staAby 0x1201) s = true ∧ crosses (.staAby 0x1200) s = false ∧
      tagOf (Instr.staAby 0x1201).operand = .aby :=
  ⟨⟨_, rfl⟩, by decide, rfl, ⟨rfl, rfl⟩, ⟨_, rfl⟩, by decide, by decide, rfl⟩

theorem witness_DecimalArithmetic : BcdByte 0x99 ∧ BcdByte 0x00 ∧ BcdByte 0x90 ∧ BcdByte 0x09 := by
  unfold BcdByte; decide

theorem witness_CompareLaw : Flag.v ∉ [Flag.c, .z, .n] := by decide

/-- An instruction of every mnemonic that a statement speaks of by its mnemonic. -/
theorem witness_mnemonics :
    (Instr.ldaImm 0).mnemonic = .lda ∧ (Instr.ldxZpy 0).mnemonic = .ldx ∧ (Instr.ldyAbx 0).mnemonic = .ldy ∧
      (Instr.staIzy 0).mnemonic = .sta ∧ (Instr.stxZp 0).mnemonic = .stx ∧ (Instr.styZpx 0).mnemonic = .sty ∧
      (Instr.adcIzx 0).mnemonic = .adc ∧ (Instr.sbcImmEB 0).mnemonic = .sbc ∧ (Instr.cmpAby 0).mnemonic = .cmp ∧
      (Instr.cpxImm 0).mnemonic = .cpx ∧ (Instr.cpyAbs 0).mnemonic = .cpy ∧ (Instr.andImm 0).mnemonic = .and ∧
      (Instr.oraZp 0).mnemonic = .ora ∧ (Instr.eorAbs 0).mnemonic = .eor ∧ (Instr.bitZp 0).mnemonic = .bit ∧
      (Instr.incAbx 0).mnemonic = .inc ∧ (Instr.decZp 0).mnemonic = .dec ∧ (Instr.sloIzx 0).mnemonic = .slo ∧
      (Instr.rlaAby 0).mnemonic = .rla ∧ (Instr.sreZp 0).mnemonic = .sre ∧ (Instr.dcpAbs 0).mnemonic = .dcp ∧
      (Instr.rraIzy 0).mnemonic = .rra ∧ (Instr.iscZp 0).mnemonic = .isc ∧ (Instr.saxZp 0).mnemonic = .sax ∧
      (Instr.laxAby 0).mnemonic = .lax ∧ (Instr.las 0).mnemonic = .las ∧ (Instr.ancImm2B 0).mnemonic = .anc ∧
      (Instr.alr 0).mnemonic = .alr ∧ (Instr.arr 0).mnemonic = .arr ∧ (Instr.sbx 0).mnemonic = .sbx ∧
      (Instr.ane 0).mnemonic = .ane ∧ (Instr.lxa 0).mnemonic = .lxa ∧ Instr.jam02.mnemonic = .jam := by decide

theorem witness_Loads : (Instr.ldaImm 0).mnemonic = .lda ∧ (Instr.ldxZpy 0).mnemonic = .ldx ∧ (Instr.ldyAbx 0).mnemonic = .ldy := by
  decide

theorem witness_Stores : (Instr.staIzy 0).mnemonic = .sta ∧ (Instr.stxZp 0).mnemonic = .stx ∧ (Instr.styZpx 0).mnemonic = .sty := by
  decide

theorem witness_AdcAndSbc : (Instr.adcIzx 0).mnemonic = .adc ∧ (Instr.sbcImmEB 0).mnemonic = .sbc := by decide

theorem witness_Compares :
    (Instr.cmpAby 0).mnemonic = .cmp ∧ (Instr.cpxImm 0).mnemonic = .cpx ∧ (Instr.cpyAbs 0).mnemonic = .cpy := by decide

theorem witness_LogicAndBit :
    (Instr.andImm 0).mnemonic = .and ∧ (Instr.oraZp 0).mnemonic = .ora ∧ (Instr.eorAbs 0).mnemonic = .eor ∧
      (Instr.bitZp 0).mnemonic = .bit := by decide

/-- Each shift and rotate on A and on memory. -/
theorem witness_ShiftsAndRotates :
    (Instr.aslAcc.mnemonic = .asl ∧ Instr.aslAcc.operand = .acc) ∧
      ((Instr.aslZp 0).mnemonic = .asl ∧ (Instr.aslZp 0).operand ≠ .acc) ∧
      (Instr.lsrAcc.mnemonic = .lsr ∧ Instr.lsrAcc.operand = .acc) ∧
      ((Instr.lsrAbx 0).mnemonic = .lsr ∧ (Instr.lsrAbx 0).operand ≠ .acc) ∧
      (Instr.rolAcc.mnemonic = .rol ∧ Instr.rolAcc.operand = .acc) ∧
      ((Instr.rolZpx 0).mnemonic = .rol ∧ (Instr.rolZpx 0).operand ≠ .acc) ∧
      (Instr.rorAcc.mnemonic = .ror ∧ Instr.rorAcc.operand = .acc) ∧
      (Instr.rorAbs 0).mnemonic = .ror ∧ (Instr.rorAbs 0).operand ≠ .acc := by decide

theorem witness_IncrementsAndDecrements : (Instr.incAbx 0).mnemonic = .inc ∧ (Instr.decZp 0).mnemonic = .dec := by decide

theorem witness_Jumps : (Instr.jmpInd 0x12FF).operand = .ind 0x12FF := rfl

/-- Each flag that a branch looks at, set and clear. -/
theorem witness_ConditionalBranches :
    (∀ f ∈ [Flag.n, .v, .c, .z], getFlag f (start []).p = false) ∧
      ∀ f ∈ [Flag.n, .v, .c, .z], getFlag f { start [] with p := 0xE7 }.p = true := by decide

theorem witness_FlagInstructionsAndNop :
    (Instr.cli, Flag.i, false) ∈ [(Instr.clc, Flag.c, false), (.sec, .c, true), (.cli, .i, false), (.sei, .i, true),
      (.cld, .d, false), (.sed, .d, true), (.clv, .v, false)] := by decide

theorem witness_UndocumentedNops :
    (Instr.nopImp1A.mnemonic = .nop ∧ Instr.nopImp1A.operand = .imp) ∧
      (Instr.nopAbx1C 0).mnemonic = .nop ∧ (Instr.nopAbx1C 0).operand ≠ .imp := by decide

theorem witness_SloRlaSreDcp :
    (Instr.sloIzx 0).mnemonic = .slo ∧ (Instr.rlaAby 0).mnemonic = .rla ∧ (Instr.sreZp 0).mnemonic = .sre ∧
      (Instr.dcpAbs 0).mnemonic = .dcp := by decide

theorem witness_RraAndIsc : (Instr.rraIzy 0).mnemonic = .rra ∧ (Instr.iscZp 0).mnemonic = .isc := by decide

theorem witness_SaxLaxLas :
    (Instr.saxZp 0).mnemonic = .sax ∧ (Instr.laxAby 0).mnemonic = .lax ∧ (Instr.las 0).mnemonic = .las := by decide

/-- ARR in both modes. -/
theorem witness_AncAlrArrSbx :
    (Instr.ancImm2B 0).mnemonic = .anc ∧ (Instr.alr 0).mnemonic = .alr ∧ (Instr.sbx 0).mnemonic = .sbx ∧
      (Instr.arr 0).mnemonic = .arr ∧ getFlag .d (start []).p = false ∧ getFlag .d { start [] with p := 0x2C }.p = true := by
  decide

theorem witness_AneAndLxa :
    (Instr.ane 0).mnemonic = .ane ∧ (Instr.lxa 0).mnemonic = .lxa ∧ operandOf (.ane 0) witnessState = 0 ∧
      operandOf (.lxa 0) witnessState = 0 := ⟨rfl, rfl, rfl, rfl⟩

/-- Each unstable store with its index crossing a page and not. -/
theorem witness_UnstableStores :
    let s := { witnessState with x := 0x01, y := 0x01 }
    (∀ i ∈ [Instr.shaAby 0x20FF, .shx 0x20FF, .shy 0x20FF, .tas 0x20FF], crosses i s = true) ∧
      (∀ i ∈ [Instr.shaAby 0x20FE, .shx 0x20FE, .shy 0x20FE, .tas 0x20FE], crosses i s = false) ∧
      (Instr.shaAby 0x20FF).mnemonic = .sha ∧ (Instr.shx 0x20FF).mnemonic = .shx ∧ (Instr.shy 0x20FF).mnemonic = .shy ∧
      (Instr.tas 0x20FF).mnemonic = .tas ∧ ∃ t, exec (.tas 0x20FF) s = .next t :=
  ⟨by decide, by decide, rfl, rfl, rfl, rfl, _, rfl⟩

theorem witness_JamHalts :
    Instr.jamF2.mnemonic = .jam ∧
      (let s := { start [(0xC000, 0xF2)] with env := [.instr true] }
      s.halted = false ∧ s.env = [.instr true] ∧ peek s s.pc = 0xF2#8) := by decide

/-- A request masked by P.I, one masked by Halt, and one that is taken. -/
theorem witness_IrqRequest :
    ((witnessTurn [.irq]).env = [.irq] ∧ getFlag .i (witnessTurn [.irq]).p = true) ∧
      (witnessHalted [.irq]).halted = true ∧
      (let s := { witnessTurn [.irq] with p := 0x20 }
      s.env = [.irq] ∧ s.halted = false ∧ getFlag .i s.p = false) := by decide

theorem witness_NmiRequest :
    ((witnessTurn [.nmi]).env = [.nmi] ∧ (witnessTurn [.nmi]).halted = false) ∧
      (witnessHalted [.nmi]).env = [.nmi] ∧ (witnessHalted [.nmi]).halted = true := by decide

theorem witness_InterruptThenRti :
    (let s := { witnessState with p := 0x20 }
    s.halted = false ∧ getFlag .i s.p = false) := by decide

/-- A reset with the cartridge driving GAME, and one without. -/
theorem witness_ResetEvent :
    ((witnessTurn [.reset]).env = [.reset] ∧ (witnessTurn [.reset]).latch.game = true) ∧
      (let s := { witnessTurn [.reset] with latch := latchOfMode 16 }
      s.env = [.reset] ∧ s.latch.game = false) := by decide

theorem witness_HeldStep :
    let s := witnessTurn [.instr true]
    s.halted = false ∧ s.env = [.instr true] ∧ (fetch s).1.mnemonic ≠ .jam ∧
      { s with setup := { Setup.reset with devicePort := false } }.setup.devicePort = false := by decide

theorem witness_HostOperations :
    (witnessTurn [.rawWrite 0x0001 0x34]).env = [.rawWrite 0x0001 0x34] ∧
      (witnessTurn [.mappedWrite 0x0001 0x34]).env = [.mappedWrite 0x0001 0x34] ∧
      (witnessTurn [.mappedRead 0xD000]).env = [.mappedRead 0xD000] ∧
      (witnessTurn [.setReg (.p 0x00)]).env = [.setReg (.p 0x00)] ∧
      (witnessTurn [.setReg (.pc 0xFFFF)]).env = [.setReg (.pc 0xFFFF)] ∧
      (witnessTurn [.setReg (.a 0x01)]).env = [.setReg (.a 0x01)] ∧
      (witnessTurn [.setReg (.x 0x01)]).env = [.setReg (.x 0x01)] ∧
      (witnessTurn [.setReg (.y 0x01)]).env = [.setReg (.y 0x01)] ∧
      (witnessTurn [.setReg (.s 0x01)]).env = [.setReg (.s 0x01)] ∧
      (witnessTurn [.lines false true]).env = [.lines false true] :=
  ⟨rfl, rfl, rfl, rfl, rfl, rfl, rfl, rfl, rfl, rfl⟩

/-- A load at $FFFF that wraps, and a BASIC load with two pointers that do not overlap; an address outside both. -/
theorem witness_ProgramLoad :
    ((witnessTurn [.loadProgram [0xFF, 0xFF, 0xAA, 0xBB] []]).env = [.loadProgram (0xFF :: 0xFF :: [0xAA, 0xBB]) []] ∧
        [0xAA#8, 0xBB#8][1]? = some 0xBB#8 ∧ word 0xFF 0xFF ≠ 0x0801) ∧
      (witnessTurn [.loadProgram [0x01, 0x08, 0xAA] [0x002D, 0x002F]]).env =
        [.loadProgram (0x01 :: 0x08 :: [0xAA]) [0x002D, 0x002F]] ∧ word 0x08 0x01 = 0x0801 ∧
      (∀ q ∈ [0x002D#16, 0x002F#16], ∀ r ∈ [0x002D#16, 0x002F#16], r ≠ q + 1 ∧ q ≠ r + 1) ∧
      (∀ k, k < 1 → (0x1000#16) ≠ word 0x08 0x01 + BitVec.ofNat 16 k) ∧
      (∀ q ∈ [0x002D#16, 0x002F#16], (0x1000#16) ∉ [q, q + 1]) ∧
      ∀ q ∈ [0x002D#16, 0x002F#16], word 0x08 0x01 + BitVec.ofNat 16 0 ∉ [q, q + 1] :=
  ⟨⟨rfl, rfl, by decide⟩, rfl, by decide, by simp, by decide, by simp, by simp [word]⟩

end Sys2Proof.Machine
end

section
/-! PROOFS. The page-cross penalty (R156). In an indexed mode every instruction is a read, a write, a read-modify-write or an
unstable store; each of these classes ends by retiring the instruction with its own `crosses`, so that what is left to say is
where R116's map puts the penalty mark. -/

namespace Sys2Proof.Machine

/-- The modes whose index can carry into the high byte of the address (R156, condition 1). -/
def Indexed (i : Instr) : Prop := tagOf i.operand ∈ [Tag.abx, .aby, .izy]

/-- An indexed instruction has no operand of another mode. -/
theorem Indexed.operand_ne {i : Instr} (h : Indexed i) {o : Operand} (ho : tagOf o ∉ [Tag.abx, .aby, .izy]) :
    i.operand ≠ o := fun e => ho (e ▸ h)

/-- An indexed instruction is not in accumulator mode. -/
theorem Indexed.ne_acc {i : Instr} (h : Indexed i) : i.operand ≠ .acc := h.operand_ne (by decide)

/-- An indexed instruction is not implied. -/
theorem Indexed.ne_imp {i : Instr} (h : Indexed i) : i.operand ≠ .imp := h.operand_ne (by decide)

/-- An indexed instruction has no immediate operand. -/
theorem Indexed.ne_imm {i : Instr} (h : Indexed i) (v : Byte) : i.operand ≠ .imm v := h.operand_ne (by simp [tagOf])

/-- The read-modify-write mnemonics (R240; R291 to R294, R297, R298). -/
def modifiers : List Mnemonic := [.asl, .lsr, .rol, .ror, .inc, .dec, .slo, .rla, .sre, .rra, .dcp, .isc]

/-- The unstable stores (R308 to R311). -/
def unstableStores : List Mnemonic := [.sha, .shx, .shy, .tas]

/-- In the Encoding lines of a mnemonic the indexed forms carry a `+` exactly when the mnemonic only reads (R156, D23, D29). -/
theorem formsOf_plus_iff (m : Mnemonic) :
    ∀ f ∈ formsOf m, f.tag ∈ [Tag.abx, .aby, .izy] → (f.plus = true ↔ m ∈ pageReaders) := by
  cases m <;> decide

/-- The mnemonics with an indexed form, by access class (R157). -/
theorem formsOf_indexed_class (m : Mnemonic) :
    ∀ f ∈ formsOf m, f.tag ∈ [Tag.abx, .aby, .izy] →
      m ∈ pageReaders ∨ m = .sta ∨ m ∈ modifiers ∨ m ∈ unstableStores := by
  cases m <;> decide

/-- The penalty mark of an indexed instruction (R156). -/
theorem Indexed.row_penalty_iff {i : Instr} (h : Indexed i) : i.row.penalty = true ↔ i.mnemonic ∈ pageReaders :=
  formsOf_plus_iff i.mnemonic (formOf i) (encoded i) h

/-- The access class of an indexed instruction (R157). -/
theorem Indexed.mnemonic_class {i : Instr} (h : Indexed i) :
    i.mnemonic ∈ pageReaders ∨ i.mnemonic = .sta ∨ i.mnemonic ∈ modifiers ∨ i.mnemonic ∈ unstableStores :=
  formsOf_indexed_class i.mnemonic (formOf i) (encoded i) h

/-- The penalty of an indexed instruction: one cycle for a reader whose index crossed (R156). -/
theorem Indexed.penalty_eq {i : Instr} (h : Indexed i) (crossed : Bool) :
    penalty i crossed = if crossed = true ∧ i.mnemonic ∈ pageReaders then 1 else 0 := by
  simp [penalty, ← h.row_penalty_iff, and_comm]

/-- The effect proper of the instruction has counted no cycle and left the setup, and its end counts with `crosses`. -/
def RetiresFrom (i : Instr) (s : State) (r : Result) : Prop :=
  ∃ u, r = .next (retire i (crosses i s) u) ∧ u.cycles = s.cycles ∧ u.setup = s.setup

/-- Such an instruction counts its base cycles and its penalty (R400). -/
theorem RetiresFrom.cycles {i : Instr} {s t : State} (h : RetiresFrom i s (.next t)) :
    t.cycles = s.cycles + baseCycles s.setup i + penalty i (crosses i s) := by
  obtain ⟨u, hr, hc, hs⟩ := h
  cases hr
  rw [retire_cycles, hc, hs, Nat.add_assoc]

/-- The read class (R157). -/
theorem readOp_retires (i : Instr) (s : State) {f : Byte → State → State} (hc : ∀ m t, (f m t).cycles = t.cycles)
    (hs : ∀ m t, (f m t).setup = t.setup) : RetiresFrom i s (readOp i f s) :=
  ⟨_, readOp_eq i f s, by simp [hc, readState], by simp [hs, readState]⟩

/-- The write class (R157). -/
theorem writeOp_retires (i : Instr) (s : State) (v : State → Byte) : RetiresFrom i s (writeOp i v s) :=
  ⟨_, writeOp_eq i v s, by simp [resolvedState], by simp [resolvedState]⟩

/-- The read-modify-write class on memory (R240). -/
theorem modifyOp_retires {i : Instr} (h : Indexed i) (s : State) {new : Byte → Byte → Byte}
    {after : Byte → Byte → State → State} (hc : ∀ old v t, (after old v t).cycles = t.cycles)
    (hs : ∀ old v t, (after old v t).setup = t.setup) : RetiresFrom i s (modifyOp i new after s) :=
  ⟨_, modifyOp_mem h.ne_acc h.ne_imm new after s, by simp [hc, readState], by simp [hs, readState]⟩

/-- The unstable stores (R308). -/
theorem unstableStore_retires (i : Instr) (s : State) (mask : State → Byte) : RetiresFrom i s (unstableStore i mask s) :=
  ⟨_, rfl, by simp, by simp⟩

/-- Whether the index crosses does not depend on S, which TAS writes before it resolves (R311). -/
theorem crosses_withSp (i : Instr) (s : State) (v : Byte) : crosses i { s with sp := v } = crosses i s := by
  rw [crosses, resolve_withSp]; rfl

/-- TAS: an unstable store from a state that differs in S alone (R311). -/
theorem opTas_retires (i : Instr) (s : State) : RetiresFrom i s (opTas i s) := by
  obtain ⟨u, hr, hc, hs⟩ := unstableStore_retires i { s with sp := s.a &&& s.x } State.sp
  rw [crosses_withSp] at hr
  exact ⟨u, hr, hc, hs⟩

/-- NOP with an operand is of the read class (R304, D31). -/
theorem opNop_retires {i : Instr} (h : i.operand ≠ .imp) (s : State) : RetiresFrom i s (opNop i s) := by
  unfold opNop
  split
  · next himp => exact absurd himp h
  · refine readOp_retires i s ?_ ?_ <;> exact fun _ _ => rfl

/-- The readers of R156 are of the read class. -/
theorem exec_reader_retires {i : Instr} (h : Indexed i) (hm : i.mnemonic ∈ pageReaders) (s : State) :
    RetiresFrom i s (exec i s) := by
  by_cases hn : i.mnemonic = .nop
  · rw [exec_of_mnemonic hn]
    exact opNop_retires h.ne_imp s
  · simp only [pageReaders, List.mem_cons, List.not_mem_nil, or_false, hn] at hm
    rcases hm with hm | hm | hm | hm | hm | hm | hm | hm | hm | hm | hm <;>
      simp only [exec_of_mnemonic hm, meaning, opLda, opLdx, opLdy, opAdc, opSbc, opCmp, opAnd, opOra, opEor, opLax, opLas] <;>
      exact readOp_retires i s (fun _ _ => rfl) (fun _ _ => rfl)

/-- The indexed forms of the read-modify-write mnemonics work on memory. -/
theorem exec_modifier_retires {i : Instr} (h : Indexed i) (hm : i.mnemonic ∈ modifiers) (s : State) :
    RetiresFrom i s (exec i s) := by
  simp only [modifiers, List.mem_cons, List.not_mem_nil, or_false] at hm
  rcases hm with hm | hm | hm | hm | hm | hm | hm | hm | hm | hm | hm | hm <;>
    simp only [exec_of_mnemonic hm, meaning, opAsl, opLsr, opRol, opRor, opInc, opDec, opSlo, opRla, opSre, opRra, opDcp,
      opIsc] <;>
    exact modifyOp_retires h s (fun _ _ _ => rfl) (fun _ _ _ => rfl)

/-- The four unstable stores. -/
theorem exec_unstableStore_retires {i : Instr} (hm : i.mnemonic ∈ unstableStores) (s : State) :
    RetiresFrom i s (exec i s) := by
  simp only [unstableStores, List.mem_cons, List.not_mem_nil, or_false] at hm
  rcases hm with hm | hm | hm | hm <;> rw [exec_of_mnemonic hm]
  · exact unstableStore_retires i s fun t => t.a &&& t.x
  · exact unstableStore_retires i s State.x
  · exact unstableStore_retires i s State.y
  · exact opTas_retires i s

/-- Every indexed instruction ends by retiring with its own `crosses`. -/
theorem Indexed.exec_retires {i : Instr} (h : Indexed i) (s : State) : RetiresFrom i s (exec i s) := by
  rcases h.mnemonic_class with hm | hm | hm | hm
  · exact exec_reader_retires h hm s
  · rw [exec_of_mnemonic hm]
    exact writeOp_retires i s State.a
  · exact exec_modifier_retires h hm s
  · exact exec_unstableStore_retires hm s

/-- Settles O24: an indexed instruction retires with its own `crosses`, and its penalty mark is its mnemonic's being a reader. -/
theorem pageCrossPenalty : Obligations.PageCrossPenalty := by
  intro i s
  refine ⟨fun n => baseCycles_of_some, baseCycles_of_none, fun t ht htag => ?_⟩
  have h : Indexed i := htag
  have hr : RetiresFrom i s (.next t) := ht ▸ h.exec_retires s
  exact ⟨by rw [hr.cycles, h.penalty_eq], h.row_penalty_iff⟩

end Sys2Proof.Machine
end

section
/-! PROOFS. The state after reset (R44) and the stack (R28 to R30). -/

namespace Sys2Proof.Machine

/-- Settles O8: nothing is written or supplied yet, and RESET_P has bit 5 set. -/
theorem resetMeetsInvariant : Obligations.ResetMeetsInvariant :=
  ⟨⟨rfl, rfl, rfl, rfl⟩, List.Pairwise.nil, rfl⟩

/-- At reset, with no image supplied, the bus reads the free bytes of the KERNAL image from page 224 up (R44, R72). -/
theorem peek_reset_high {a : Word} (h : 224 ≤ (hi a).toNat) :
    peek State.reset a = Config.kernalRom (BitVec.ofNat 13 (a.toNat - 0xE000)) := by
  have hport : selectsPort State.reset a = false := selectsPort_high _ h
  have hrom : classify State.reset.latch a = .kernalRom := by
    simp (disch := omega) only [classify, classifyPage, if_neg]
    rfl
  simp only [peek, hport, storeByte, hrom]
  rfl

/-- Settles O9: each value is the one R44 and D4 to D21 give; PC is the word at the reset vector, which the bus reads in the
KERNAL image. -/
theorem resetState : Obligations.ResetState := by
  have hpc : State.reset.pc = word (peek State.reset 0xFFFD) (peek State.reset 0xFFFC) := by
    rw [peek_reset_high (by decide), peek_reset_high (by decide)]
    rfl
  have hflags : ∀ f, getFlag f State.reset.p = decide (f = .i ∨ f = .u) := by
    intro f
    cases f <;> decide
  exact ⟨rfl, rfl, rfl, rfl, hflags, hpc, rfl, fun _ => rfl, rfl, rfl, rfl, fun _ => baseCycles_of_none rfl⟩

/-- The stack address as R28 and R29 write it: $0100 + S. -/
theorem stackAddr_eq_add (sp : Byte) : stackAddr sp = 0x0100#16 + zext16 sp := by
  refine BitVec.eq_of_toNat_eq ?_
  have hsp : sp.toNat < 256 := sp.isLt
  rw [toNat_add_zext16, stackAddr, toNat_word, Nat.mod_eq_of_lt] <;> simp
  omega

/-- A push adds its byte to what is stacked, when S does not address one of those bytes already (R28). -/
theorem Stacked.after_push {bytes : List (Word × Byte)} {s t : State} (h : Stacked bytes s t) (v : Byte)
    (hnew : stackAddr t.sp ∉ bytes.map Prod.fst) : Stacked (bytes ++ [(stackAddr t.sp, v)]) s (push t v) := by
  refine ⟨fun e he => ?_, fun b hb => ?_, ?_, ?_⟩
  · rcases List.mem_append.1 he with hold | hlast
    · rw [ramByte_push_other t v fun hsp => hnew (hsp ▸ List.mem_map_of_mem hold), h.pushed e hold]
    · rw [List.mem_singleton.1 hlast, ramByte_push_same]
  · simp only [List.map_append, List.mem_append, List.map_cons, List.map_nil, List.mem_singleton, not_or] at hb
    rw [ramByte_push_other t v hb.2, h.elsewhere b hb.1]
  · rw [push_latch, h.latch]
  · rw [push_portLog, h.portLog]

/-- A push stacks its byte at S (R28). -/
theorem stacked_push (s : State) (v : Byte) : Stacked [(stackAddr s.sp, v)] s (push s v) :=
  (stacked_nil rfl rfl rfl rfl : Stacked [] s s).after_push v List.not_mem_nil

/-- The byte below S is another byte, S wrapping (R23). -/
theorem stackAddr_sub_one_ne (sp : Byte) : stackAddr (sp - 1) ≠ stackAddr sp := fun h => by
  have := congrArg BitVec.toNat (stackAddr_injective h)
  simp at this
  omega

/-- Pushing a word stacks the high byte at S and the low byte below it (R30). -/
theorem stacked_pushWord (s : State) (w : Word) :
    Stacked [(stackAddr s.sp, hi w), (stackAddr (s.sp - 1), lo w)] s (pushWord s w) := by
  have h := (stacked_push s (hi w)).after_push (lo w)
  rw [push_sp] at h
  exact h (by simpa using stackAddr_sub_one_ne s.sp)

/-- Pushing a word moves S by two. -/
theorem pushWord_sp (s : State) (w : Word) : (pushWord s w).sp = s.sp - 2 := by
  simp [pushWord, BitVec.sub_sub]

/-- Settles O19: a push is a raw write on page 1 and a step of S down, a pull reads there after a step of S up. -/
theorem pushAndPullByte : Obligations.PushAndPullByte := by
  refine ⟨fun s v => ⟨?_, ?_, ?_⟩, fun s => ⟨?_, ?_, ?_⟩⟩
  · rw [← stackAddr_eq_add]
    exact stacked_push s v
  · rw [push_sp, BitVec.toNat_sub, Nat.add_comm]
    rfl
  · exact ⟨_, by rw [push_sp]; exact push_eq s v⟩
  · rw [← stackAddr_eq_add]
    exact pulled_eq s
  · rw [afterPull_sp, BitVec.toNat_add]
    rfl
  · rw [afterPull_sp]
    exact afterPull_eq s

/-- Settles O20: the two bytes are stacked high first, and the pulls read them back from where they were stacked. -/
theorem pushAndPullWord : Obligations.PushAndPullWord := by
  intro s w
  have hst := stacked_pushWord s w
  refine ⟨hst, pulledWord_eq s, ?_, ?_⟩
  · have hhi : s.sp - 2 + 2 = s.sp := BitVec.sub_add_cancel _ _
    have hlo : s.sp - 2 + 1 = s.sp - 1 := by bv_omega
    rw [pulledWord_eq, pushWord_sp, hhi, hlo, hst.pushed (stackAddr s.sp, hi w) (by simp),
      hst.pushed (stackAddr (s.sp - 1), lo w) (by simp), word_hi_lo]
  · rw [afterPullWord_eq]
    show (pushWord s w).sp + 2 = s.sp
    rw [pushWord_sp, BitVec.sub_add_cancel]

end Sys2Proof.Machine
end

section
/-! PROOFS. What an instruction may change, said once for all of them. `InstrFrame m` is kept by every operation the meanings
are made of and is transitive, so that the frame of an instruction is the chain of its operations' frames; the writers (R21 to R27),
the latch (R31 to R33), the halted flag (R331) and the invariant are fields of it. -/

namespace Sys2Proof.Machine

/-! ### The latch and the control byte -/

/-- From `s` to `t` the latch was set from the byte now in RAM at $0001, or neither it nor that byte has changed (R32, R71). -/
def LatchFollows (s t : State) : Prop :=
  (t.latch = s.latch ∧ ramByte t 0x0001 = ramByte s 0x0001) ∨ t.latch = setLatch s.latch (ramByte t 0x0001)

/-- A later control byte overrides an earlier one, for it sets all three bits (R32). -/
theorem setLatch_setLatch (l : Latch) (u v : Byte) : setLatch (setLatch l u) v = setLatch l v := rfl

theorem LatchFollows.trans {s t u : State} (h : LatchFollows s t) (h' : LatchFollows t u) : LatchFollows s u := by
  obtain ⟨hl', hb'⟩ | hset' := h'
  · obtain ⟨hl, hb⟩ | hset := h
    · exact .inl ⟨hl'.trans hl, hb'.trans hb⟩
    · exact .inr (by rw [hl', hset, hb'])
  · obtain ⟨hl, -⟩ | hset := h
    · exact .inr (by rw [hset', hl])
    · exact .inr (by rw [hset', hset, setLatch_setLatch])

/-- A write through the bus at $0001 goes to RAM and to the latch; elsewhere it touches neither (R71, D10). -/
theorem latchFollows_busWrite (s : State) (a : Word) (v : Byte) : LatchFollows s (busWrite s a v) := by
  have hst := busWrite_stored s a v
  by_cases ha : a = 0x0001
  · subst ha
    refine .inr ?_
    rw [hst.latch, if_pos rfl, (hst.toRam (selectsPort_one s)).1]
  · exact .inl ⟨by rw [hst.latch, if_neg ha], hst.elsewhere _ (Ne.symm ha)⟩

/-- GAME and EXROM are no bits of the control byte (R33). -/
theorem LatchFollows.lines {s t : State} (h : LatchFollows s t) :
    t.latch.game = s.latch.game ∧ t.latch.exrom = s.latch.exrom := by
  obtain ⟨hl, -⟩ | hset := h
  · simp [hl]
  · simp [hset, setLatch]

/-! ### The frame -/

/-- What an instruction of mnemonic `m` may change: the flags and registers it is a listed writer of, the halted flag if it is JAM,
memory through the bus. -/
structure InstrFrame (m : Mnemonic) (s t : State) : Prop where
  regs : ∀ r, m ∉ regWriters r → t.reg r = s.reg r
  flags : ∀ f, m ∉ flagWriters f → getFlag f t.p = getFlag f s.p
  unused : UnusedSet s → UnusedSet t
  memories : MemoriesWf s → MemoriesWf t
  latch : LatchFollows s t
  setup : t.setup = s.setup
  halted : m ≠ .jam → t.halted = s.halted

variable {m : Mnemonic}

theorem InstrFrame.refl (s : State) : InstrFrame m s s where
  regs _ _ := rfl
  flags _ _ := rfl
  unused := id
  memories := id
  latch := .inl ⟨rfl, rfl⟩
  setup := rfl
  halted _ := rfl

theorem InstrFrame.trans {s t u : State} (h : InstrFrame m s t) (h' : InstrFrame m t u) : InstrFrame m s u where
  regs r hr := (h'.regs r hr).trans (h.regs r hr)
  flags f hf := (h'.flags f hf).trans (h.flags f hf)
  unused := h'.unused ∘ h.unused
  memories := h'.memories ∘ h.memories
  latch := h.latch.trans h'.latch
  setup := h'.setup.trans h.setup
  halted hm := (h'.halted hm).trans (h.halted hm)

/-- A change of registers and flags alone. -/
theorem frame_of_memory_kept {s t : State} (hr : ∀ r, m ∉ regWriters r → t.reg r = s.reg r)
    (hf : ∀ f, m ∉ flagWriters f → getFlag f t.p = getFlag f s.p) (hu : UnusedSet s → UnusedSet t)
    (hram : t.ram = s.ram := by simp) (hlatch : t.latch = s.latch := by simp) (hepoch : t.epoch = s.epoch := by simp)
    (hsetup : t.setup = s.setup := by simp) (hhalted : t.halted = s.halted := by simp) : InstrFrame m s t where
  regs := hr
  flags := hf
  unused := hu
  memories := memoriesWf_congr hram hsetup
  latch := .inl ⟨hlatch, ramByte_congr hram hepoch _⟩
  setup := hsetup
  halted _ := hhalted

/-- A change of no register but PC and of no flag, nor of memory: reads and the counting of cycles are such. -/
theorem frame_of_pcOnly {s t : State} (ha : t.a = s.a := by simp) (hx : t.x = s.x := by simp) (hy : t.y = s.y := by simp)
    (hs : t.sp = s.sp := by simp) (hp : t.p = s.p := by simp) (hram : t.ram = s.ram := by simp)
    (hlatch : t.latch = s.latch := by simp) (hepoch : t.epoch = s.epoch := by simp)
    (hsetup : t.setup = s.setup := by simp) (hhalted : t.halted = s.halted := by simp) : InstrFrame m s t :=
  frame_of_memory_kept (fun r _ => by cases r <;> assumption) (fun f _ => by rw [hp]) (fun h => by rwa [UnusedSet, hp])
    hram hlatch hepoch hsetup hhalted

/-! ### The registers and flags -/

/-- The state with one byte register written. -/
def State.withReg (s : State) (v : Byte) : Reg → State
  | .a => { s with a := v }
  | .x => { s with x := v }
  | .y => { s with y := v }
  | .s => { s with sp := v }

theorem State.reg_withReg (s : State) (v : Byte) (r r' : Reg) :
    (s.withReg v r).reg r' = if r' = r then v else s.reg r' := by
  cases r <;> cases r' <;> rfl

/-- A listed writer may write its register. -/
theorem frame_withReg (s : State) (v : Byte) (r : Reg) (h : m ∈ regWriters r) : InstrFrame m s (s.withReg v r) := by
  have hreg : ∀ r', m ∉ regWriters r' → (s.withReg v r).reg r' = s.reg r' := fun r' hr' => by
    have hne : r' ≠ r := fun e => hr' (e ▸ h)
    rw [s.reg_withReg, if_neg hne]
  cases r <;> exact frame_of_memory_kept hreg (fun _ _ => rfl) id rfl rfl rfl rfl rfl

/-- P may change in the flags that `m` is a listed writer of, but P.U stays 1. -/
theorem frame_setP {s : State} {p : Byte} (hf : ∀ f, m ∉ flagWriters f → getFlag f p = getFlag f s.p)
    (hu : getFlag .u s.p = true → getFlag .u p = true) : InstrFrame m s { s with p := p } :=
  frame_of_memory_kept (fun r _ => by cases r <;> rfl) hf hu

/-- A listed writer may write its flag. -/
theorem frame_putFlag {s : State} {b : Bool} {f : Flag} (h : m ∈ flagWriters f) (hu : f ≠ .u := by decide) :
    InstrFrame m s { s with p := putFlag f b s.p } := by
  refine frame_setP (fun g hg => ?_) fun h1 => ?_
  · have hne : g ≠ f := fun e => hg (e ▸ h)
    rw [getFlag_putFlag, if_neg hne]
  · rw [getFlag_putFlag, if_neg (Ne.symm hu), h1]

/-- SetNZ (R11). -/
theorem frame_putNZ {s : State} {v : Byte} (h : m ∈ flagWriters .n ∧ m ∈ flagWriters .z) :
    InstrFrame m s { s with p := putNZ v s.p } :=
  (frame_putFlag h.1).trans (frame_putFlag h.2)

theorem frame_loadA {s : State} {v : Byte} (h : m ∈ regWriters .a ∧ m ∈ flagWriters .n ∧ m ∈ flagWriters .z) :
    InstrFrame m s (loadA v s) :=
  (frame_withReg s v .a h.1).trans (frame_putNZ h.2)

theorem frame_loadX {s : State} {v : Byte} (h : m ∈ regWriters .x ∧ m ∈ flagWriters .n ∧ m ∈ flagWriters .z) :
    InstrFrame m s (loadX v s) :=
  (frame_withReg s v .x h.1).trans (frame_putNZ h.2)

theorem frame_loadY {s : State} {v : Byte} (h : m ∈ regWriters .y ∧ m ∈ flagWriters .n ∧ m ∈ flagWriters .z) :
    InstrFrame m s (loadY v s) :=
  (frame_withReg s v .y h.1).trans (frame_putNZ h.2)

/-- The flags of a compare (R204). -/
theorem frame_putCompare {s : State} {r v : Byte}
    (h : m ∈ flagWriters .c ∧ m ∈ flagWriters .n ∧ m ∈ flagWriters .z) :
    InstrFrame m s { s with p := putCompare r v s.p } :=
  (frame_putNZ h.2).trans (frame_putFlag h.1)

/-- The flags of an addition or subtraction (R200 to R203). -/
theorem frame_putAlu {s : State} {r : AluResult}
    (h : m ∈ flagWriters .c ∧ m ∈ flagWriters .v ∧ m ∈ flagWriters .n ∧ m ∈ flagWriters .z) :
    InstrFrame m s { s with p := putAlu r s.p } :=
  (frame_putFlag h.2.2.1).trans ((frame_putFlag h.2.1).trans ((frame_putFlag h.2.2.2).trans (frame_putFlag h.1)))

theorem frame_adcEffect {s : State} {v : Byte}
    (h : m ∈ regWriters .a ∧ m ∈ flagWriters .c ∧ m ∈ flagWriters .v ∧ m ∈ flagWriters .n ∧ m ∈ flagWriters .z) :
    InstrFrame m s (adcEffect v s) :=
  (frame_withReg s _ .a h.1).trans (frame_putAlu (r := addByMode s.p s.a v) h.2)

theorem frame_sbcEffect {s : State} {v : Byte}
    (h : m ∈ regWriters .a ∧ m ∈ flagWriters .c ∧ m ∈ flagWriters .v ∧ m ∈ flagWriters .n ∧ m ∈ flagWriters .z) :
    InstrFrame m s (sbcEffect v s) :=
  (frame_withReg s _ .a h.1).trans (frame_putAlu (r := subByMode s.p s.a v) h.2)

/-- P as restored from the stack has P.U = 1 and any other flags (R193, R253). -/
theorem frame_restoredP {s : State} {v : Byte} (h : ∀ f, m ∈ flagWriters f) :
    InstrFrame m s { s with p := restoredP v } :=
  frame_setP (fun f hf => absurd (h f) hf) fun _ => getFlag_u_restoredP v

/-! ### The bus, the stack and the clock -/

theorem frame_setPc {s : State} {w : Word} : InstrFrame m s { s with pc := w } := frame_of_pcOnly

theorem frame_afterRead {s : State} {a : Word} : InstrFrame m s (afterRead s a) := frame_of_pcOnly

theorem frame_afterReadWord {s : State} {a : Word} : InstrFrame m s (afterReadWord s a) := frame_of_pcOnly

theorem frame_resolve {s : State} {o : Operand} : InstrFrame m s (resolve o s).state := frame_of_pcOnly

theorem frame_readState {i : Instr} {s : State} : InstrFrame m s (readState i s) := by
  unfold readState
  exact frame_of_pcOnly

theorem frame_fetch (s : State) : InstrFrame m s (fetch s).2 := by
  unfold fetch
  cases template (peek s s.pc) with
  | one i => exact frame_afterRead
  | two f => exact frame_afterRead.trans frame_afterRead
  | three f => exact frame_afterRead.trans frame_afterReadWord

theorem frame_account {i : Instr} {n : Nat} {s : State} : InstrFrame m s (account i n s) := frame_of_pcOnly

theorem frame_retire {i : Instr} {c : Bool} {s : State} : InstrFrame m s (retire i c s) := frame_of_pcOnly

theorem frame_drawn {s : State} : InstrFrame m s (drawn s) := frame_of_pcOnly

theorem frame_busWrite {s : State} {a : Word} {v : Byte} : InstrFrame m s (busWrite s a v) where
  regs r _ := by cases r <;> simp [State.reg]
  flags f _ := by rw [busWrite_p]
  unused h := by rwa [UnusedSet, busWrite_p]
  memories := memoriesWf_busWrite a v
  latch := latchFollows_busWrite s a v
  setup := busWrite_setup s a v
  halted _ := busWrite_halted s a v

theorem frame_push {s : State} {v : Byte} (h : m ∈ regWriters .s) : InstrFrame m s (push s v) :=
  frame_busWrite.trans (frame_withReg _ _ .s h)

theorem frame_afterPull {s : State} (h : m ∈ regWriters .s) : InstrFrame m s (afterPull s) :=
  frame_afterRead.trans (frame_withReg _ _ .s h)

theorem frame_pushWord {s : State} {w : Word} (h : m ∈ regWriters .s) : InstrFrame m s (pushWord s w) :=
  (frame_push h).trans (frame_push h)

theorem frame_afterPullWord {s : State} (h : m ∈ regWriters .s) : InstrFrame m s (afterPullWord s) :=
  (frame_afterPull h).trans (frame_afterPull h)

/-- Taking an exception writes S, the flags it sets, and memory (R342). -/
theorem frame_takeException {s : State} {ret vector : Word} {copy flags : Byte} (hs : m ∈ regWriters .s)
    (hf : ∀ f, getFlag f flags = true → m ∈ flagWriters f) : InstrFrame m s (takeException s ret copy flags vector) := by
  have hp : ∀ u : State, InstrFrame m u { u with p := u.p ||| flags } := fun u => by
    refine frame_setP (fun f hm => ?_) fun h => ?_
    · rw [getFlag_or, Bool.eq_false_iff.2 fun h => hm (hf f h), Bool.or_false]
    · rw [getFlag_or, h, Bool.true_or]
  exact (frame_pushWord hs).trans ((frame_push hs).trans ((hp _).trans (frame_afterReadWord.trans frame_setPc)))

/-- Returning from an exception writes S and P (R253). -/
theorem frame_returnFromException {s : State} (hs : m ∈ regWriters .s) (hf : ∀ f, m ∈ flagWriters f) :
    InstrFrame m s (returnFromException s) :=
  (frame_afterPull hs).trans ((frame_restoredP hf).trans ((frame_afterPullWord hs).trans frame_setPc))

/-! ### The access classes -/

/-- The result is a next state within the frame. -/
def Framed (m : Mnemonic) (s : State) (r : Result) : Prop := ∃ t, r = .next t ∧ InstrFrame m s t

theorem impliedOp_framed {i : Instr} {s : State} {f : State → State} (hf : InstrFrame m s (f s)) :
    Framed m s (impliedOp i f s) :=
  ⟨_, rfl, hf.trans frame_retire⟩

theorem readOp_framed {i : Instr} {s : State} {f : Byte → State → State} (hf : ∀ v u, InstrFrame m u (f v u)) :
    Framed m s (readOp i f s) :=
  ⟨_, readOp_eq i f s, frame_readState.trans ((hf _ _).trans frame_retire)⟩

theorem writeOp_framed {i : Instr} {s : State} {v : State → Byte} : Framed m s (writeOp i v s) :=
  ⟨_, writeOp_eq i v s, frame_resolve.trans (frame_busWrite.trans frame_retire)⟩

/-- In accumulator mode A is written, else memory (R240). -/
theorem modifyOp_framed {i : Instr} {s : State} {new : Byte → Byte → Byte} {after : Byte → Byte → State → State}
    (ha : i.operand = .acc → m ∈ regWriters .a) (hf : ∀ old v u, InstrFrame m u (after old v u)) :
    Framed m s (modifyOp i new after s) := by
  by_cases hacc : i.operand = .acc
  · exact ⟨_, modifyOp_acc hacc new after s, (frame_withReg s _ .a (ha hacc)).trans ((hf _ _ _).trans frame_retire)⟩
  · have hk : (resolve i.operand s).kind ≠ .acc := fun h => hacc ((resolve_kind_acc _ _).1 h)
    unfold modifyOp
    dsimp only
    split
    · next h => exact absurd h hk
    · exact ⟨_, rfl, frame_resolve.trans
        (frame_afterRead.trans (frame_busWrite.trans ((hf _ _ _).trans frame_retire)))⟩

theorem unstableStore_framed {i : Instr} {s : State} {mask : State → Byte} : Framed m s (unstableStore i mask s) :=
  ⟨_, rfl, frame_resolve.trans (frame_busWrite.trans (frame_drawn.trans frame_retire))⟩

theorem branch_framed {i : Instr} {s : State} {cond : Bool} : Framed m s (branch i cond s) := by
  cases cond
  · exact ⟨_, rfl, frame_account.trans frame_setPc⟩
  · exact ⟨_, rfl, frame_account.trans frame_setPc⟩

end Sys2Proof.Machine
end

section
/-! PROOFS. Every instruction keeps its frame, and what follows: the latch follows the control byte, the writers are the listed
ones, only JAM halts. -/

namespace Sys2Proof.Machine

/-- In the Encoding lines only writers of A have an accumulator form. -/
theorem formsOf_acc_writes_a (m : Mnemonic) : ∀ f ∈ formsOf m, f.tag = .acc → m ∈ regWriters .a := by
  cases m <;> decide

/-- An instruction in accumulator mode is a listed writer of A. -/
theorem acc_writes_a {i : Instr} (h : i.operand = .acc) : i.mnemonic ∈ regWriters .a :=
  formsOf_acc_writes_a i.mnemonic (formOf i) (encoded i) (by simp [formOf, h, tagOf])

/-- PLP and RTI are listed writers of every flag. -/
theorem restorers_write_flags {m : Mnemonic} (h : m ∈ [.plp, .rti]) (f : Flag) : m ∈ flagWriters f := by
  revert m
  cases f <;> decide

/-- NOP, implied or with an operand that it reads (R287, R304). -/
theorem opNop_framed (i : Instr) (s : State) : Framed .nop s (opNop i s) := by
  unfold opNop
  split
  · exact impliedOp_framed (.refl s)
  · exact readOp_framed fun _ t => .refl t

/-- ARR writes A and the flags N, V, Z, C (R301). -/
theorem frame_arr (s : State) (v : Byte) :
    InstrFrame .arr s { s with a := (arrByMode (s.a &&& v) s.p).1, p := (arrByMode (s.a &&& v) s.p).2 } := by
  have hp : ∀ f, .arr ∉ flagWriters f → getFlag f (arrByMode (s.a &&& v) s.p).2 = getFlag f s.p := fun f hf => by
    refine getFlag_arrByMode f _ _ ?_ ?_ ?_ ?_ <;> (rintro rfl; exact hf (by decide))
  exact (frame_withReg s _ .a (by decide)).trans (frame_setP hp fun h => (hp .u (by decide)).trans h)

/-- Halt changes no register, flag or byte (R331). -/
theorem frame_raiseHalt (s : State) : InstrFrame .jam s (raiseHalt s) where
  regs r _ := by cases r <;> rfl
  flags _ _ := rfl
  unused := id
  memories := id
  latch := .inl ⟨rfl, rfl⟩
  setup := rfl
  halted hne := absurd rfl hne

/-- BRK sets B and I (R254). -/
theorem brk_writes_flags (f : Flag) : getFlag f (Flag.b.mask ||| Flag.i.mask) = true → .brk ∈ flagWriters f := by
  cases f <;> decide

/-- The operation of every mnemonic keeps the mnemonic's frame. -/
theorem meaning_framed (i : Instr) (s : State) (m : Mnemonic) (ha : i.operand = .acc → m ∈ regWriters .a) :
    Framed m s (meaning m i s) := by
  cases m
  all_goals dsimp only [meaning, opLda, opLdx, opLdy, opAnd, opOra, opEor, opAdc, opSbc, opCmp, opCpx, opCpy, opBit,
    opLax, opLas, opAnc, opAlr, opArr, opSbx, opAne, opLxa, opSta, opStx, opSty, opSax, opSha, opShx, opShy, opTas,
    opAsl, opLsr, opRol, opRor, opInc, opDec, opSlo, opRla, opSre, opRra, opDcp, opIsc, opClc, opSec, opCli, opSei,
    opCld, opSed, opClv, opTax, opTsx, opInx, opDex, opTay, opIny, opDey, opTxa, opTya, opTxs, opPha, opPhp, opPla,
    opPlp, opBpl, opBmi, opBvc, opBvs, opBcc, opBcs, opBne, opBeq, opJmp, opJsr, opRts, opRti, opBrk, opJam]
  case lda => exact readOp_framed fun _ _ => frame_loadA (by decide)
  case ldx => exact readOp_framed fun _ _ => frame_loadX (by decide)
  case ldy => exact readOp_framed fun _ _ => frame_loadY (by decide)
  case and | ora | eor => exact readOp_framed fun _ _ => frame_loadA (by decide)
  case adc => exact readOp_framed fun _ _ => frame_adcEffect (by decide)
  case sbc => exact readOp_framed fun _ _ => frame_sbcEffect (by decide)
  case cmp | cpx | cpy => exact readOp_framed fun _ _ => frame_putCompare (by decide)
  case bit => exact readOp_framed fun _ _ =>
    (frame_putFlag (by decide)).trans ((frame_putFlag (by decide)).trans (frame_putFlag (by decide)))
  case nop => exact opNop_framed i s
  case lax => exact readOp_framed fun _ _ => (frame_withReg _ _ .a (by decide)).trans (frame_loadX (by decide))
  case las => exact readOp_framed fun v u =>
    (frame_withReg _ (v &&& u.sp) .a (by decide)).trans ((frame_withReg _ (v &&& u.sp) .x (by decide)).trans
      ((frame_withReg _ (v &&& u.sp) .s (by decide)).trans (frame_putNZ (by decide))))
  case anc | alr => exact readOp_framed fun _ _ => (frame_putFlag (by decide)).trans (frame_loadA (by decide))
  case arr => exact readOp_framed fun v u => frame_arr u v
  case sbx =>
    refine readOp_framed fun v u => ?_
    exact (frame_withReg u ((u.a &&& u.x) - v) .x (by decide)).trans (frame_putCompare (by decide))
  case ane => exact readOp_framed fun _ _ => (frame_loadA (by decide)).trans frame_drawn
  case lxa => exact readOp_framed fun _ _ =>
    (frame_withReg _ _ .a (by decide)).trans ((frame_loadX (by decide)).trans frame_drawn)
  case sta | stx | sty | sax => exact writeOp_framed
  case sha | shx | shy => exact unstableStore_framed
  case tas =>
    obtain ⟨t, ht, hf⟩ := unstableStore_framed
    exact ⟨t, ht, (frame_withReg s (s.a &&& s.x) .s (by decide)).trans hf⟩
  case asl | lsr | rol | ror => exact modifyOp_framed ha fun _ _ _ =>
    (frame_putFlag (by decide)).trans (frame_putNZ (by decide))
  case inc | dec => exact modifyOp_framed ha fun _ _ _ => frame_putNZ (by decide)
  case slo | rla | sre => exact modifyOp_framed ha fun _ _ _ =>
    (frame_putFlag (by decide)).trans (frame_loadA (by decide))
  case rra => exact modifyOp_framed ha fun _ _ _ => (frame_putFlag (by decide)).trans (frame_adcEffect (by decide))
  case dcp => exact modifyOp_framed ha fun _ _ _ => frame_putCompare (by decide)
  case isc => exact modifyOp_framed ha fun _ _ _ => frame_sbcEffect (by decide)
  case clc | sec | cli | sei | cld | sed | clv => exact impliedOp_framed (frame_putFlag (by decide))
  case tax | tsx | inx | dex => exact impliedOp_framed (frame_loadX (by decide))
  case tay | iny | dey => exact impliedOp_framed (frame_loadY (by decide))
  case txa | tya => exact impliedOp_framed (frame_loadA (by decide))
  case txs => exact impliedOp_framed (frame_withReg _ _ .s (by decide))
  case pha | php => exact impliedOp_framed (frame_push (by decide))
  case pla => exact impliedOp_framed ((frame_afterPull (by decide)).trans (frame_loadA (by decide)))
  case plp =>
    exact impliedOp_framed ((frame_afterPull (by decide)).trans (frame_restoredP (restorers_write_flags (by decide))))
  case bpl | bmi | bvc | bvs | bcc | bcs | bne | beq => exact branch_framed
  case jmp => exact ⟨_, rfl, frame_resolve.trans (frame_account.trans frame_setPc)⟩
  case jsr => exact ⟨_, rfl, frame_resolve.trans ((frame_pushWord (by decide)).trans (frame_account.trans frame_setPc))⟩
  case rts => exact ⟨_, rfl, (frame_afterPullWord (by decide)).trans (frame_account.trans frame_setPc)⟩
  case rti =>
    exact ⟨_, rfl, (frame_returnFromException (by decide) (restorers_write_flags (by decide))).trans frame_account⟩
  case brk => exact ⟨_, rfl, (frame_takeException (by decide) brk_writes_flags).trans frame_account⟩
  case jam => exact ⟨_, rfl, frame_raiseHalt s⟩

/-- Every instruction keeps its mnemonic's frame. -/
theorem exec_frame {i : Instr} {s t : State} (h : exec i s = .next t) : InstrFrame i.mnemonic s t := by
  obtain ⟨u, hu, hf⟩ := meaning_framed i s i.mnemonic acc_writes_a
  rw [exec_eq_meaning, hu] at h
  cases h
  exact hf

/-- Settles O11: the bus writes at $0001 set the latch, and the latch follows the control byte in every instruction's frame. -/
theorem latchFollowsControlByte : Obligations.LatchFollowsControlByte := by
  refine ⟨fun s v => ?_, fun i s t h => ?_, fun i s t h => (exec_frame h).latch.lines⟩
  · exact (busWrite_stored s 0x0001 v).latch
  · exact (exec_frame h).latch.imp_left And.left

/-- Settles O13: outside the listed flags and registers the frame says nothing changes. -/
theorem writersOfFlagsAndRegisters : Obligations.WritersOfFlagsAndRegisters := fun _ _ _ h =>
  ⟨fun f hne => by_contra fun hm => hne ((exec_frame h).flags f hm),
    fun r hne => by_contra fun hm => hne ((exec_frame h).regs r hm)⟩

end Sys2Proof.Machine
end

section
/-! PROOFS. What a step can do (R14, R110), and what it keeps: the halted flag is cleared by reset alone (R331, D19), the canonical
memories and P.U = 1 by every turn (R26). -/

namespace Sys2Proof.Machine

/-! ### The turns of the environment -/

/-- From `s` to `t` only RAM has changed, and it has kept its form. -/
structure RamOnly (s t : State) : Prop where
  eq : t = { s with ram := t.ram }
  memories : MemoriesWf s → MemoriesWf t

theorem RamOnly.refl (s : State) : RamOnly s s := ⟨rfl, id⟩

theorem RamOnly.trans {s t u : State} (h : RamOnly s t) (h' : RamOnly t u) : RamOnly s u :=
  ⟨by rw [h'.eq, h.eq], h'.memories ∘ h.memories⟩

theorem RamOnly.setup {s t : State} (h : RamOnly s t) : t.setup = s.setup := by rw [h.eq]

theorem RamOnly.p {s t : State} (h : RamOnly s t) : t.p = s.p := by rw [h.eq]

theorem RamOnly.halted {s t : State} (h : RamOnly s t) : t.halted = s.halted := by rw [h.eq]

theorem ramOnly_rawWrite (s : State) (a : Word) (v : Byte) : RamOnly s (rawWrite s a v) := ⟨rfl, memoriesWf_rawWrite a v⟩

theorem ramOnly_rawWriteAll (s : State) (a : Word) (bytes : List Byte) : RamOnly s (rawWriteAll s a bytes) := by
  induction bytes generalizing s a with
  | nil => exact .refl s
  | cons b rest ih => exact (ramOnly_rawWrite s a b).trans (ih _ _)

theorem ramOnly_patchPointers (s : State) (w : Word) (pointers : List Word) : RamOnly s (patchPointers s w pointers) := by
  induction pointers generalizing s with
  | nil => exact .refl s
  | cons q rest ih => exact (ramOnly_rawWrite s q _).trans ((ramOnly_rawWrite _ (q + 1) _).trans (ih _))

/-- A program load stores bytes raw (R392). -/
theorem ramOnly_loadProgram (s : State) (file : List Byte) (pointers : List Word) :
    RamOnly s (loadProgram file pointers s) := by
  unfold loadProgram
  split
  · dsimp only
    split
    · exact (ramOnly_rawWriteAll s _ _).trans (ramOnly_patchPointers _ _ _)
    · exact ramOnly_rawWriteAll s _ _
  · exact .refl s

/-- The invariant looks at RAM, the setup and P alone. -/
theorem Inv.congr {s t : State} (h : Inv s) (hram : t.ram = s.ram) (hsetup : t.setup = s.setup) (hp : t.p = s.p) : Inv t where
  memories := memoriesWf_congr hram hsetup h.memories
  cycleTable := by rw [hsetup]; exact h.cycleTable
  unused := by rw [UnusedSet, hp]; exact h.unused

/-- The invariant does not look at CYCLES. -/
theorem Inv.withCycles {s : State} (h : Inv s) (n : Nat) : Inv { s with cycles := n } := h.congr rfl rfl rfl

theorem Inv.of_ramOnly {s t : State} (h : Inv s) (hr : RamOnly s t) : Inv t where
  memories := hr.memories h.memories
  cycleTable := by rw [hr.setup]; exact h.cycleTable
  unused := by rw [UnusedSet, hr.p]; exact h.unused

/-- The frame of any instruction keeps the invariant. -/
theorem Inv.of_frame {m : Mnemonic} {s t : State} (h : Inv s) (hf : InstrFrame m s t) : Inv t where
  memories := hf.memories h.memories
  cycleTable := by rw [hf.setup]; exact h.cycleTable
  unused := hf.unused h.unused

/-- An interrupt entry writes what BRK writes: the stack, and B or I (R342). -/
theorem inv_takeException {s : State} (h : Inv s) (ret vector : Word) (copy : Byte) {flags : Byte}
    (hf : ∀ f, getFlag f flags = true → .brk ∈ flagWriters f) : Inv (takeException s ret copy flags vector) :=
  h.of_frame (frame_takeException (m := .brk) (by decide) hf)

theorem inv_irqRequest {s : State} (h : Inv s) : Inv (irqRequest s) := by
  have hf : ∀ f, getFlag f Flag.i.mask = true → .brk ∈ flagWriters f := fun f => by cases f <;> decide
  unfold irqRequest
  split
  · exact h
  · exact (inv_takeException h s.pc vectorIrq (pushedByIrq s.p) hf).withCycles _

theorem inv_nmiRequest {s : State} (h : Inv s) : Inv (nmiRequest s) := by
  unfold nmiRequest
  split
  · exact h
  · exact (inv_takeException h s.pc vectorNmi (pushedByNmi s.p) brk_writes_flags).withCycles _

/-- Reset empties RAM's list and sets P.U under either RESET_P (R380, D4). -/
theorem inv_resetEvent {s : State} (h : Inv s) : Inv (resetEvent s) := by
  have hbefore : Inv (resetBeforeVector s) := by
    refine ⟨⟨rfl, h.memories.2⟩, h.cycleTable, ?_⟩
    show getFlag .u (Config.resetP s.setup.resetP) = true
    cases s.setup.resetP <;> decide
  exact hbefore.congr (afterReadWord_ram _ _) (afterReadWord_setup _ _) (afterReadWord_p _ _)

theorem inv_togetherEvent {s : State} (h : Inv s) (reset nmi irq : Bool) : Inv (togetherEvent reset nmi irq s) := by
  have hnmi : Inv (if nmi then nmiRequest s else s) := by
    cases nmi
    · exact h
    · exact inv_nmiRequest h
  cases reset
  · cases irq
    · exact hnmi
    · exact inv_irqRequest hnmi
  · exact inv_resetEvent h

/-- A host write of P forces bit 5 (R395). -/
theorem inv_setReg {s : State} (h : Inv s) (w : HostWrite) : Inv (setReg w s) := by
  cases w with
  | p v => exact ⟨h.memories, h.cycleTable, getFlag_u_restoredP v⟩
  | _ => exact h.congr rfl rfl rfl

/-- Every turn of the environment keeps the invariant. -/
theorem inv_environmentTurn {s : State} (h : Inv s) (u : Turn) : Inv (environmentTurn u s) := by
  cases u with
  | instr hold => exact h
  | irq => exact inv_irqRequest h
  | nmi => exact inv_nmiRequest h
  | reset => exact inv_resetEvent h
  | together reset nmi irq => exact inv_togetherEvent h reset nmi irq
  | lines game exrom => exact h.congr rfl rfl rfl
  | mappedRead a => exact h.congr (afterRead_ram s a) (afterRead_setup s a) (afterRead_p s a)
  | mappedWrite a v => exact h.of_frame (m := .sta) frame_busWrite
  | rawWrite a v => exact h.of_ramOnly (ramOnly_rawWrite s a v)
  | setReg w => exact inv_setReg h w
  | loadProgram file pointers => exact h.of_ramOnly (ramOnly_loadProgram s file pointers)

/-! ### The step -/

/-- No turn is due: a plain step (R14). -/
theorem step_of_env_nil {s : State} (h : s.env = []) : step s = stepRequest false s := by
  simp [step, h]

/-- A step request is due. -/
theorem step_of_env_instr {s : State} {hold : Bool} {rest : List Turn} (h : s.env = .instr hold :: rest) :
    step s = stepRequest hold { s with env := rest } := by
  simp [step, h]

/-- Another turn of the environment is due. -/
theorem step_of_env_turn {s : State} {u : Turn} {rest : List Turn} (h : s.env = u :: rest) (hu : ∀ hold, u ≠ .instr hold) :
    step s = .next (environmentTurn u { s with env := rest }) := by
  cases u with
  | instr hold => exact absurd rfl (hu hold)
  | _ => simp [step, h]

/-- A step is a step request, of the state itself when no turn is due, or another turn of the environment. -/
theorem step_cases {s t : State} (h : step s = .next t) :
    (s.env = [] ∧ stepRequest false s = .next t) ∨
    (∃ hold rest, s.env = .instr hold :: rest ∧ stepRequest hold { s with env := rest } = .next t) ∨
    ∃ u rest, s.env = u :: rest ∧ (∀ hold, u ≠ .instr hold) ∧ environmentTurn u { s with env := rest } = t := by
  rcases henv : s.env with _ | ⟨u, rest⟩
  · exact .inl ⟨rfl, step_of_env_nil henv ▸ h⟩
  · by_cases hu : ∃ hold, u = .instr hold
    · obtain ⟨hold, rfl⟩ := hu
      exact .inr (.inl ⟨hold, rest, rfl, step_of_env_instr henv ▸ h⟩)
    · have hturn : ∀ hold, u ≠ .instr hold := fun hold e => hu ⟨hold, e⟩
      rw [step_of_env_turn henv hturn] at h
      cases h
      exact .inr (.inr ⟨u, rest, rfl, hturn, rfl⟩)

/-- A halted core answers a step request with the halt report alone (R331). -/
theorem stepRequest_of_halted {s : State} (h : s.halted = true) (hold : Bool) :
    stepRequest hold s = .next { s with report := .halt } := by
  simp [stepRequest, h]

/-- A running core fetches; then the step is held or the instruction runs (R110, R353). -/
theorem stepRequest_cases {hold : Bool} {s t : State} (h : stepRequest hold s = .next t) (hrun : s.halted = false) :
    heldStep (fetch s).1 (fetch s).2 = t ∨ exec (fetch s).1 (fetch s).2 = .next t := by
  simp only [stepRequest, hrun, Bool.false_eq_true, if_false] at h
  split at h
  · cases h
    exact .inl rfl
  · exact .inr h

theorem inv_stepRequest {hold : Bool} {s t : State} (h : Inv s) (ht : stepRequest hold s = .next t) : Inv t := by
  cases hhalt : s.halted
  · have hfetch : Inv (fetch s).2 := h.of_frame (m := .nop) (frame_fetch s)
    obtain hheld | hexec := stepRequest_cases ht hhalt
    · rw [← hheld]
      exact (hfetch.of_frame (m := .nop) frame_resolve).congr rfl rfl rfl
    · exact hfetch.of_frame (exec_frame hexec)
  · rw [stepRequest_of_halted hhalt] at ht
    cases ht
    exact h.congr rfl rfl rfl

/-- Settles O7: an instruction keeps the invariant by its frame, a turn of the environment by the lemma of its kind. -/
theorem stepKeepsInvariant : Obligations.StepKeepsInvariant := by
  intro s t h ht
  have hrest : ∀ rest, Inv { s with env := rest } := fun _ => h.congr rfl rfl rfl
  obtain ⟨-, hreq⟩ | ⟨hold, rest, -, hreq⟩ | ⟨u, rest, -, -, rfl⟩ := step_cases ht
  · exact inv_stepRequest h hreq
  · exact inv_stepRequest (hrest rest) hreq
  · exact inv_environmentTurn (hrest rest) u

/-! ### The halted flag -/

/-- JAM sets the flag, every other instruction leaves it (R312, R331). -/
theorem exec_halted {i : Instr} {s t : State} (h : exec i s = .next t) : t.halted = (s.halted || i.mnemonic == .jam) := by
  by_cases hj : i.mnemonic = .jam
  · rw [exec_of_mnemonic hj] at h
    cases h
    simp [hj]
  · simp [(exec_frame h).halted hj, hj]

theorem irqRequest_of_halted {s : State} (h : s.halted = true) : irqRequest s = s := by simp [irqRequest, h]

theorem nmiRequest_of_halted {s : State} (h : s.halted = true) : nmiRequest s = s := by simp [nmiRequest, h]

/-- Of the turns that are no step request only a reset clears the flag (D19). -/
theorem environmentTurn_halted {s : State} (h : s.halted = true) (u : Turn) :
    (environmentTurn u s).halted = true ∨ u = .reset ∨ ∃ nmi irq, u = .together true nmi irq := by
  cases u with
  | instr hold => exact .inl h
  | irq => exact .inl (by rw [environmentTurn, irqRequest_of_halted h, h])
  | nmi => exact .inl (by rw [environmentTurn, nmiRequest_of_halted h, h])
  | reset => exact .inr (.inl rfl)
  | together reset nmi irq =>
    cases reset
    · exact .inl (by simp [environmentTurn, togetherEvent, nmiRequest_of_halted h, irqRequest_of_halted h, h])
    · exact .inr (.inr ⟨nmi, irq, rfl⟩)
  | lines game exrom => exact .inl h
  | mappedRead a => exact .inl ((afterRead_halted s a).trans h)
  | mappedWrite a v => exact .inl ((busWrite_halted s a v).trans h)
  | rawWrite a v => exact .inl h
  | setReg w => exact .inl (by cases w <;> exact h)
  | loadProgram file pointers => exact .inl ((ramOnly_loadProgram s file pointers).halted.trans h)

theorem stepRequest_keeps_halted {hold : Bool} {s t : State} (h : s.halted = true) (ht : stepRequest hold s = .next t) :
    t.halted = true := by
  rw [stepRequest_of_halted h] at ht
  cases ht
  exact h

/-- Settles O12: JAM alone sets the flag, a halted step request and halted interrupt requests do nothing to it, and of the turns
only reset clears it. -/
theorem haltedFlag : Obligations.HaltedFlag := by
  refine ⟨fun i s t h => exec_halted h, fun s t hs h => ?_, fun s hs henv => ?_, fun s hold rest hs henv => ?_,
    fun s hs => ⟨irqRequest_of_halted hs, nmiRequest_of_halted hs⟩⟩
  · obtain ⟨-, hreq⟩ | ⟨hold, rest, -, hreq⟩ | ⟨u, rest, henv, -, rfl⟩ := step_cases h
    · exact .inl (stepRequest_keeps_halted hs hreq)
    · exact .inl (stepRequest_keeps_halted (s := { s with env := rest }) hs hreq)
    · rw [henv]
      obtain hkept | rfl | ⟨nmi, irq, rfl⟩ := environmentTurn_halted (s := { s with env := rest }) hs u
      · exact .inl hkept
      · exact .inr (.inl ⟨rest, rfl⟩)
      · exact .inr (.inr ⟨nmi, irq, rest, rfl⟩)
  · rw [step_of_env_nil henv, stepRequest_of_halted hs]
  · rw [step_of_env_instr henv]
    exact stepRequest_of_halted (s := { s with env := rest }) hs hold

end Sys2Proof.Machine
end

section
/-! PROOFS. The bank decoder (R64 to R66). It depends on the page range alone, so that a claim about every address is a claim about
32 modes and seven ranges. -/

namespace Sys2Proof.Machine

/-! ### The modes -/

/-- The mode number of a latch (R31). -/
def Latch.mode (l : Latch) : Nat :=
  l.exrom.toNat * 16 + l.game.toNat * 8 + l.charen.toNat * 4 + l.hiram.toNat * 2 + l.loram.toNat

theorem Latch.mode_lt (l : Latch) : l.mode < 32 := by
  have := l.loram.toNat_lt
  have := l.hiram.toNat_lt
  have := l.charen.toNat_lt
  have := l.game.toNat_lt
  have := l.exrom.toNat_lt
  unfold Latch.mode
  omega

/-- A latch is the latch of its mode. -/
theorem latchOfMode_mode (l : Latch) : latchOfMode l.mode = l := by
  obtain ⟨loram, hiram, charen, game, exrom⟩ := l
  cases loram <;> cases hiram <;> cases charen <;> cases game <;> cases exrom <;> rfl

/-! ### The page ranges -/

/-- The page of an address is its high byte (R64). -/
theorem toNat_hi (a : Word) : (hi a).toNat = a.toNat / 256 := by
  have ha : a.toNat < 65536 := a.isLt
  simp only [hi, BitVec.extractLsb'_toNat, Nat.shiftRight_eq_div_pow]
  omega

theorem classify_eq (l : Latch) (a : Word) : classify l a = classifyPage l (a.toNat / 256) := by
  rw [classify, toNat_hi]

/-- The first page of each of R64's seven page ranges, and the end of the last. -/
def rangeStart : Nat → Nat
  | 0 => 0 | 1 => 16 | 2 => 128 | 3 => 160 | 4 => 192 | 5 => 208 | 6 => 224 | _ => 256

theorem pageRange_lt (page : Nat) : pageRange page < 7 := by
  unfold pageRange
  split_ifs <;> decide

/-- A page from one range's start up to the next one's lies in that range. -/
theorem pageRange_eq {page r : Nat} (hlow : rangeStart r ≤ page) (hhigh : page < rangeStart (r + 1))
    (hr : r < 7 := by decide) : pageRange page = r := by
  unfold pageRange
  interval_cases r <;> simp only [rangeStart] at hlow hhigh <;> split_ifs <;> omega

/-- All pages of a range are classified as its first one is. -/
theorem classifyPage_rangeStart (l : Latch) (page : Nat) :
    classifyPage l (rangeStart (pageRange page)) = classifyPage l page := by
  unfold pageRange
  split_ifs <;> simp [rangeStart, classifyPage, *]

/-! ### The regions -/

/-- The regions that R64 lists for each page range. -/
def rangeRegions : Nat → List Region
  | 0 => [.ram]
  | 1 => [.ram, .undefined]
  | 2 => [.ram, .cartRomLo]
  | 3 => [.ram, .basicRom, .cartRomHi, .undefined]
  | 4 => [.ram, .undefined]
  | 5 => [.ram, .ioDevices, .charsetRom]
  | _ => [.ram, .kernalRom, .cartRomHi]

/-- Every cell of R66's table is the region of its range's first page. -/
theorem modeRow_getElem : ∀ m < 32, ∀ r < 7,
    (modeRow m)[r]? = some (classifyPage (latchOfMode m) (rangeStart r)) := by decide

/-- R66's table keeps to the regions that R64 lists. -/
theorem modeRow_subset : ∀ m < 32, ∀ r < 7, ∀ region ∈ (modeRow m)[r]?, region ∈ rangeRegions r := by decide

/-- The table's cell for a latch and an address. -/
theorem modeRow_classify {m : Nat} (hm : m < 32) (a : Word) :
    (modeRow m)[pageRange (a.toNat / 256)]? = some (classify (latchOfMode m) a) := by
  rw [classify_eq, ← classifyPage_rangeStart]
  exact modeRow_getElem m hm _ (pageRange_lt _)

/-- An address in a page range has one of the regions listed for it. -/
theorem classify_mem_rangeRegions (l : Latch) {a : Word} (r : Nat) (hlow : rangeStart r ≤ a.toNat / 256)
    (hhigh : a.toNat / 256 < rangeStart (r + 1)) (hr : r < 7 := by decide) : classify l a ∈ rangeRegions r := by
  have hcell := modeRow_classify l.mode_lt a
  rw [latchOfMode_mode, pageRange_eq hlow hhigh hr] at hcell
  exact modeRow_subset l.mode l.mode_lt r hr _ hcell

/-- Settles O14: the decoder looks at the page alone, and each range has the regions of its column in R66's table. -/
theorem classifyByPage : Obligations.ClassifyByPage := by
  refine ⟨fun l a b hpage => by rw [classify_eq, classify_eq, hpage], fun l a => ?_⟩
  have hlast : a.toNat / 256 < 256 := Nat.div_lt_of_lt_mul a.isLt
  exact ⟨fun h => List.mem_singleton.1 (classify_mem_rangeRegions l 0 (Nat.zero_le _) (Nat.lt_succ_of_le h)),
    fun h h' => classify_mem_rangeRegions l 1 h (Nat.lt_succ_of_le h'),
    fun h h' => classify_mem_rangeRegions l 2 h (Nat.lt_succ_of_le h'),
    fun h h' => classify_mem_rangeRegions l 3 h (Nat.lt_succ_of_le h'),
    fun h h' => classify_mem_rangeRegions l 4 h (Nat.lt_succ_of_le h'),
    fun h h' => classify_mem_rangeRegions l 5 h (Nat.lt_succ_of_le h'),
    fun h => classify_mem_rangeRegions l 6 h hlast⟩

/-- Settles O15: each range is classified as its first page, where the table is checked cell by cell; a latch has its mode. -/
theorem classifyIsTheModeTable : Obligations.ClassifyIsTheModeTable :=
  ⟨fun _ a hm => modeRow_classify hm a, fun l => ⟨l.mode, l.mode_lt, (latchOfMode_mode l).symm⟩⟩

end Sys2Proof.Machine
end

section
/-! PROOFS. The arbiter's reads and writes by region (R70 to R76). -/

namespace Sys2Proof.Machine

/-! ### Reads -/

/-- The port is selected in IO_DEVICES when one is attached (R75, D11). -/
theorem selectsPort_iff (s : State) (a : Word) :
    selectsPort s a = true ↔ classify s.latch a = .ioDevices ∧ s.setup.devicePort = true := by
  simp [selectsPort]

/-- Outside IO_DEVICES the port is never selected. -/
theorem selectsPort_of_ne_ioDevices {s : State} {a : Word} (h : classify s.latch a ≠ .ioDevices) :
    selectsPort s a = false :=
  Bool.eq_false_iff.2 fun hp => h ((selectsPort_iff s a).1 hp).1

/-- With no port attached none is selected. -/
theorem selectsPort_of_no_port {s : State} {a : Word} (h : s.setup.devicePort = false) : selectsPort s a = false := by
  simp [selectsPort, h]

/-- A read that the port does not answer gives the byte of the region's store and changes nothing (R70). -/
theorem read_of_not_port {s : State} {a : Word} {b : Byte} (hport : selectsPort s a = false) (hb : storeByte s a = b) :
    peek s a = b ∧ afterRead s a = s :=
  ⟨by simp [peek, hport, hb], afterRead_of_not_port hport⟩

/-- A read outside IO_DEVICES gives the byte of the region's store and changes nothing (R70). -/
theorem read_of_ne_ioDevices {s : State} {a : Word} {b : Byte} (h : classify s.latch a ≠ .ioDevices)
    (hb : storeByte s a = b) : peek s a = b ∧ afterRead s a = s :=
  read_of_not_port (selectsPort_of_ne_ioDevices h) hb

/-- A read that the port answers is recorded with its answer (R75, R76). -/
theorem read_of_port {s : State} {a : Word} (h : selectsPort s a = true) :
    peek s a = Config.deviceAnswer s.portLog a ∧
      afterRead s a = { s with portLog := s.portLog ++ [.read a (peek s a)] } := by
  simp [peek, afterRead, h]

/-- Settles O16: the port answers in IO_DEVICES when one is attached, the region's store in all other cases. -/
theorem readByRegion : Obligations.ReadByRegion := by
  intro s a
  refine ⟨fun h => read_of_ne_ioDevices (by simp [h]) (by simp only [storeByte, h]),
    fun h => read_of_ne_ioDevices (by simp [h]) (by simp only [storeByte, h]),
    fun h => read_of_ne_ioDevices (by simp [h]) (by simp only [storeByte, h]),
    fun h hport => read_of_port ((selectsPort_iff s a).2 ⟨h, hport⟩),
    fun h hport => read_of_not_port (selectsPort_of_no_port hport) (by simp only [storeByte, h]), fun h => ?_⟩
  simp only [List.mem_cons, List.not_mem_nil, or_false] at h
  obtain h | h | h | h := h <;> exact read_of_ne_ioDevices (by simp [h]) (by simp only [storeByte, h])

/-! ### Writes -/

/-- A bus write changes RAM, the latch and the port's record at most (R71). -/
theorem busWrite_eq (s : State) (a : Word) (v : Byte) :
    ∃ r l g, busWrite s a v = { s with ram := r, latch := l, portLog := g } := by
  unfold busWrite
  split_ifs
  · exact ⟨s.ram, s.latch, _, rfl⟩
  · exact ⟨_, _, s.portLog, rfl⟩
  · exact ⟨_, s.latch, s.portLog, rfl⟩

/-- Settles O17: the law of a bus write, when the port is selected, and what else may change. -/
theorem writeThroughBus : Obligations.WriteThroughBus := fun s a v =>
  ⟨busWrite_stored s a v, selectsPort_iff s a, busWrite_eq s a v⟩

/-- A read of a ROM image depends on the latch and the setup alone (R72, R73). -/
theorem peek_congr_of_rom {s t : State} {a : Word} (hlatch : t.latch = s.latch) (hsetup : t.setup = s.setup)
    (h : classify s.latch a ∈ [Region.basicRom, .kernalRom, .charsetRom]) : peek t a = peek s a := by
  have hio : classify s.latch a ≠ .ioDevices := fun hio => by simp [hio] at h
  have hstore : storeByte t a = storeByte s a := by
    simp only [List.mem_cons, List.not_mem_nil, or_false] at h
    obtain h | h | h := h <;> simp only [storeByte, hlatch, hsetup, h]
  rw [(read_of_ne_ioDevices (hlatch ▸ hio) hstore).1, (read_of_ne_ioDevices hio rfl).1]

/-- Where the latch selects RAM a read answers RAM's byte (R70). -/
theorem peek_of_ram {s : State} {a : Word} (h : classify s.latch a = .ram) : peek s a = ramByte s a :=
  (read_of_ne_ioDevices (by simp [h]) (by simp only [storeByte, h])).1

/-- Settles O18: outside IO_DEVICES the byte goes to RAM, which a read sees where the latch selects RAM; a ROM read sees only the
setup. -/
theorem romIsNeverWritten : Obligations.RomIsNeverWritten := by
  intro s a v
  refine ⟨busWrite_setup s a v, fun h => ?_⟩
  have hio : classify s.latch a ≠ .ioDevices := fun hio => by simp [hio] at h
  have hbyte : ramByte (busWrite s a v) a = v := ((busWrite_stored s a v).toRam (selectsPort_of_ne_ioDevices hio)).1
  refine ⟨hbyte, fun l => ⟨fun hram => ?_, fun hrom => ?_⟩⟩
  · exact (peek_of_ram (s := { busWrite s a v with latch := l }) hram).trans hbyte
  · exact peek_congr_of_rom (s := { s with latch := l }) rfl (busWrite_setup s a v) hrom

end Sys2Proof.Machine
end

section
/-! PROOFS. Encoding and decoding (R112 to R115). Both directions rest on `Template.rebuild`: the decoder rebuilds the instruction
from its opcode's entry and the bytes after the opcode (`decode_cons_ok_iff`), every instruction is rebuilt from its own bytes
(`fetchForm`), and what an entry rebuilds encodes to the bytes it was rebuilt from (`encode_of_rebuild`). -/

namespace Sys2Proof

open Laws

/-! ### The rows and the opcode map agree -/

/-- Every instruction is what its opcode's entry makes of its operand bytes: the laws of the constructors, in their order. -/
theorem fetchForm (i : Instr) : FetchForm.Statement i :=
  open FetchForm in
  i.rec (motive := Statement)
    oraIzx sloIzx nopZp04 oraZp aslZp sloZp oraImm ancImm0B nopAbs oraAbs aslAbs sloAbs bpl oraIzy sloIzy nopZpx14 oraZpx
    aslZpx sloZpx oraAby sloAby nopAbx1C oraAbx aslAbx sloAbx jsr andIzx rlaIzx bitZp andZp rolZp rlaZp andImm ancImm2B bitAbs
    andAbs rolAbs rlaAbs bmi andIzy rlaIzy nopZpx34 andZpx rolZpx rlaZpx andAby rlaAby nopAbx3C andAbx rolAbx rlaAbx eorIzx
    sreIzx nopZp44 eorZp lsrZp sreZp eorImm alr jmpAbs eorAbs lsrAbs sreAbs bvc eorIzy sreIzy nopZpx54 eorZpx lsrZpx sreZpx
    eorAby sreAby nopAbx5C eorAbx lsrAbx sreAbx adcIzx rraIzx nopZp64 adcZp rorZp rraZp adcImm arr jmpInd adcAbs rorAbs rraAbs
    bvs adcIzy rraIzy nopZpx74 adcZpx rorZpx rraZpx adcAby rraAby nopAbx7C adcAbx rorAbx rraAbx nopImm80 staIzx nopImm82
    saxIzx styZp staZp stxZp saxZp nopImm89 ane styAbs staAbs stxAbs saxAbs bcc staIzy shaIzy styZpx staZpx stxZpy saxZpy
    staAby tas shy staAbx shx shaAby ldyImm ldaIzx ldxImm laxIzx ldyZp ldaZp ldxZp laxZp ldaImm lxa ldyAbs ldaAbs ldxAbs
    laxAbs bcs ldaIzy laxIzy ldyZpx ldaZpx ldxZpy laxZpy ldaAby las ldyAbx ldaAbx ldxAby laxAby cpyImm cmpIzx nopImmC2 dcpIzx
    cpyZp cmpZp decZp dcpZp cmpImm sbx cpyAbs cmpAbs decAbs dcpAbs bne cmpIzy dcpIzy nopZpxD4 cmpZpx decZpx dcpZpx cmpAby
    dcpAby nopAbxDC cmpAbx decAbx dcpAbx cpxImm sbcIzx nopImmE2 iscIzx cpxZp sbcZp incZp iscZp sbcImm sbcImmEB cpxAbs sbcAbs
    incAbs iscAbs beq sbcIzy iscIzy nopZpxF4 sbcZpx incZpx iscZpx sbcAby iscAby nopAbxFC sbcAbx incAbx iscAbx brk jam02 php
    aslAcc jam12 clc nopImp1A jam22 plp rolAcc jam32 sec nopImp3A rti jam42 pha lsrAcc jam52 cli nopImp5A rts jam62 pla rorAcc
    jam72 sei nopImp7A dey txa jam92 tya txs tay tax jamB2 clv tsx iny dex jamD2 cld nopImpDA inx nopImp jamF2 sed nopImpFA

/-- The instruction an entry makes of an operand word; one operand byte is its low byte. -/
def Template.fill : Template → Word → Instr
  | .one i, _ => i
  | .two f, w => f (lo w)
  | .three f, w => f w

/-- The map's 256 entries, one after the other: what an entry makes encodes to its own opcode and to the operand's bytes (R116). -/
theorem encode_fill_ofNat {n : Nat} (h : n < 256) (w : Word) :
    encode ((template (.ofNat 8 n)).fill w) = [.ofNat 8 n, lo w, hi w].take (template (.ofNat 8 n)).length := by
  interval_cases n <;> rfl

theorem encode_fill (op : Byte) (w : Word) :
    encode ((template op).fill w) = [op, lo w, hi w].take (template op).length := by
  simpa using encode_fill_ofNat op.isLt w

/-- What an entry rebuilds from operand bytes encodes to the opcode and those bytes. -/
theorem encode_of_rebuild {op : Byte} {bs : List Byte} {i : Instr} (h : (template op).rebuild bs = some i) :
    encode i = op :: bs := by
  unfold Template.rebuild at h
  split at h
  · next ht => simpa [ht, Template.fill, Template.length, ← Option.some.inj h] using encode_fill op 0
  · next b ht => simpa [ht, Template.fill, Template.length, ← Option.some.inj h] using encode_fill op (word 0 b)
  · next l hb ht => simpa [ht, Template.fill, Template.length, ← Option.some.inj h] using encode_fill op (word hb l)
  · cases h

/-- An entry rebuilds from as many operand bytes as its format has (R112). -/
theorem length_of_rebuild {t : Template} {bs : List Byte} {i : Instr} (h : t.rebuild bs = some i) :
    t.length = bs.length + 1 := by
  unfold Template.rebuild at h
  split at h
  · rfl
  · rfl
  · rfl
  · cases h

/-! ### The decoder -/

/-- The decoder takes the operand bytes that the opcode's entry rebuilds an instruction from, and no others (R112 to R115). -/
theorem decode_cons_ok_iff {op : Byte} {tl rest : List Byte} {i : Instr} :
    decode (op :: tl) = .ok (i, rest) ↔ ∃ bs, (template op).rebuild bs = some i ∧ tl = bs ++ rest := by
  constructor
  · intro h
    simp only [decode] at h
    split at h
    · next ht => cases h; exact ⟨[], by simp [ht, Template.rebuild], rfl⟩
    · next b _ ht => cases h; exact ⟨[b], by simp [ht, Template.rebuild], rfl⟩
    · next l hb _ ht => cases h; exact ⟨[l, hb], by simp [ht, Template.rebuild], rfl⟩
    · cases h
  · rintro ⟨bs, h, rfl⟩
    unfold Template.rebuild at h
    split at h
    · next ht => cases h; simp [decode, ht]
    · next ht => cases h; simp [decode, ht]
    · next ht => cases h; simp [decode, ht]
    · cases h

/-- Code shorter than the opcode's format is refused by name (R112). -/
theorem decode_cons_truncated {op : Byte} {tl : List Byte} (h : tl.length + 1 < (template op).length) :
    decode (op :: tl) = .error .truncated := by
  simp only [decode]
  split
  · next ht => simp [ht, Template.length] at h
  · next ht => simp [ht, Template.length] at h
  · next ht => simp [ht, Template.length] at h; omega
  · rfl

/-- An opcode byte followed by two more decodes: no format has a third operand byte (R112, R119). -/
theorem exists_decode_of_three_bytes (op b1 b2 : Byte) (rest : List Byte) :
    ∃ i tl, decode (op :: b1 :: b2 :: rest) = .ok (i, tl) := by
  cases ht : template op <;> simp [decode, ht]

/-- An encoding has the length of its mode (R113). -/
theorem length_encode (i : Instr) : (encode i).length = i.size := by
  unfold encode Instr.size
  cases i.operand <;> rfl

/-- The opcode's entry has the length of the instruction (R114). -/
theorem length_template (i : Instr) : (template i.opcode).length = i.size := by
  rw [length_of_rebuild (fetchForm i), ← length_encode, encode, List.length_cons]

/-- An encoding is the code of exactly one instruction. -/
theorem wellFormed_encode (i : Instr) : wellFormedCode (encode i) = true := by
  have h : i.operand.bytes.length + 1 = (template i.opcode).length := (length_of_rebuild (fetchForm i)).symm
  simp [wellFormedCode, codeFlaw, encode, h]

/-- Only code shorter than its opcode's format has this flaw. -/
theorem exists_cons_of_tooShort {bs : List Byte} (h : codeFlaw bs = some .tooShort) :
    ∃ op tl, bs = op :: tl ∧ tl.length + 1 < (template op).length := by
  unfold codeFlaw at h
  split at h
  · cases h
  · next op tl =>
    refine ⟨op, tl, rfl, ?_⟩
    split at h
    · assumption
    · split at h <;> cases h

/-! ### The obligations on the encoding -/

/-- Settles O1: the opcode's entry rebuilds the instruction from its operand bytes, and the decoder takes just these. -/
theorem decodeOfEncode : Obligations.DecodeOfEncode := fun i _ =>
  decode_cons_ok_iff.2 ⟨i.operand.bytes, fetchForm i, rfl⟩

/-- Settles O2: what decodes was rebuilt by its opcode's entry from the bytes it was encoded to. -/
theorem encodeOfDecode : Obligations.EncodeOfDecode := by
  intro bs rest i h
  refine ⟨?_, length_encode i, wellFormed_encode i⟩
  cases bs with
  | nil => cases h
  | cons op tl =>
    obtain ⟨operand, hrebuild, rfl⟩ := decode_cons_ok_iff.1 h
    rw [encode_of_rebuild hrebuild, List.cons_append]

/-- Settles O3: three bytes suffice for every format, and what decodes was encoded with its opcode and its size. -/
theorem everyOpcodeDecodes : Obligations.EveryOpcodeDecodes := by
  refine ⟨fun op b1 b2 rest => ?_, rfl, fun bs h => ?_⟩
  · obtain ⟨i, tl, h⟩ := exists_decode_of_three_bytes op b1 b2 rest
    obtain ⟨hbytes, hsize, -⟩ := encodeOfDecode _ _ _ h
    have hop : i.opcode = op := (List.cons.inj hbytes).1.symm
    refine ⟨i, hop, Machine.encoded i, ?_⟩
    rw [h, hbytes, ← hsize, List.drop_left]
  · obtain ⟨op, tl, rfl, hlen⟩ := exists_cons_of_tooShort h
    exact decode_cons_truncated hlen

end Sys2Proof
end

section
/-! PROOFS. The fetch reads and decodes the bytes at PC, one after the other through the bus (R85, R115, D14), and a plain step runs
what it fetched (R110). -/

namespace Sys2Proof.Machine

/-- The fetch reads as many bytes as the opcode's format has, one after the other, and decodes them (R85, R115, D14). -/
theorem fetch_eq_decode (s : State) :
    decode (readBytes (template (peek s s.pc)).length s.pc s).1 = .ok ((fetch s).1, []) ∧
      (readBytes (template (peek s s.pc)).length s.pc s).2 = (fetch s).2 := by
  cases h : template (peek s s.pc) <;>
    simp [fetch, decode, readBytes, Template.length, peekWord, afterReadWord, h]

/-- Bytes read one after the other begin with the byte at the first address. -/
theorem peek_of_readBytes {n : Nat} {a : Word} {s : State} {b : Byte} {bs : List Byte}
    (h : (readBytes n a s).1 = b :: bs) : peek s a = b := by
  cases n with
  | zero => cases h
  | succ n => exact (List.cons.inj h).1

/-- Reads that the port does not answer change nothing (R70). -/
theorem readBytes_state_of_not_port {n : Nat} {a : Word} {s : State}
    (h : ∀ k, k < n → selectsPort s (a + BitVec.ofNat 16 k) = false) : (readBytes n a s).2 = s := by
  induction n generalizing a with
  | zero => rfl
  | succ n ih =>
    have hfirst : afterRead s a = s := afterRead_of_not_port (by simpa using h 0 n.succ_pos)
    have hrest : ∀ k, k < n → selectsPort s (a + 1 + BitVec.ofNat 16 k) = false := fun k hk => by
      have := h (k + 1) (Nat.succ_lt_succ hk)
      rwa [BitVec.ofNat_add, BitVec.add_comm (BitVec.ofNat 16 k), ← BitVec.add_assoc] at this
    rw [readBytes, hfirst]
    exact ih hrest

/-- The fetch is the instruction that as many bytes at PC as it has decode to, in the state after their reads. -/
theorem fetch_of_decode {s : State} {i : Instr} (h : decode (readBytes i.size s.pc s).1 = .ok (i, [])) :
    fetch s = (i, (readBytes i.size s.pc s).2) := by
  obtain ⟨hbytes, -⟩ := encodeOfDecode _ _ _ h
  have hop : peek s s.pc = i.opcode := peek_of_readBytes hbytes
  obtain ⟨hdecode, hstate⟩ := fetch_eq_decode s
  rw [hop, length_template] at hdecode hstate
  have hinstr : i = (fetch s).1 := by cases h.symm.trans hdecode; rfl
  exact Prod.ext hinstr.symm hstate.symm

/-- A plain step of a running core runs what it fetched (R110). -/
theorem step_of_running {s : State} (h : Running s) : step s = exec (fetch s).1 (fetch s).2 := by
  obtain ⟨henv, hhalted⟩ := h
  rw [step_of_env_nil henv]
  simp [stepRequest, hhalted]

/-- Settles O5: a plain step runs what it fetched, and the fetch is the reads at PC, decoded. -/
theorem stepRunsDecodedInstruction : Obligations.StepRunsDecodedInstruction := by
  intro s i hrun hdecode
  have hstep : step s = exec i (readBytes i.size s.pc s).2 := by rw [step_of_running hrun, fetch_of_decode hdecode]
  refine ⟨hstep, fun hport => ?_⟩
  rw [hstep, readBytes_state_of_not_port hport]

end Sys2Proof.Machine
end

section
/-! PROOFS. The operand resolver's address arithmetic in integers (R143 to R155), and the modes that few mnemonics have. -/

namespace Sys2Proof.Machine

/-! ### Bytes and addresses as numbers -/

/-- A word's low byte as a number. -/
theorem toNat_lo (a : Word) : (lo a).toNat = a.toNat % 256 := by
  simp only [lo, BitVec.extractLsb'_toNat, Nat.shiftRight_zero]

/-- An address is the word of its number. -/
theorem eq_ofNat_of_toNat {a : Word} {n : Nat} (h : a.toNat = n) : a = BitVec.ofNat 16 n := by
  rw [← h, BitVec.ofNat_toNat, BitVec.setWidth_eq]

/-- A zero-extended byte is the word of the byte's number (R10). -/
theorem zext16_eq_ofNat (b : Byte) : zext16 b = BitVec.ofNat 16 b.toNat :=
  eq_ofNat_of_toNat (by simp [zext16, toNat_word])

/-- A byte and an index, added within page zero (R145, R146). -/
theorem zext16_add_eq_ofNat (b index : Byte) :
    zext16 (b + index) = BitVec.ofNat 16 ((b.toNat + index.toNat) % 256) := by
  rw [zext16_eq_ofNat, BitVec.toNat_add]

/-- An index changes the high byte of an address exactly when it carries out of the low byte (R148). -/
theorem hi_add_zext16_ne_iff (base : Word) (index : Byte) :
    hi (base + zext16 index) ≠ hi base ↔ 256 ≤ base.toNat % 256 + index.toNat := by
  have hbase : base.toNat < 65536 := base.isLt
  have hindex : index.toNat < 256 := index.isLt
  rw [Ne, ← BitVec.toNat_inj, toNat_hi, toNat_hi, toNat_add_zext16]
  omega

/-- The address of a pointer's high byte keeps the page and increments the low byte mod 256 (R155). -/
theorem pointerNext_eq_ofNat (ptr : Word) :
    pointerNext ptr = BitVec.ofNat 16 (ptr.toNat / 256 * 256 + (ptr.toNat + 1) % 256) :=
  eq_ofNat_of_toNat (by simp [pointerNext, toNat_word, toNat_hi, toNat_lo])

/-- A pointer in page zero has its high byte in page zero (R152, R153). -/
theorem pointerNext_zext16 (z : Byte) : pointerNext (zext16 z) = BitVec.ofNat 16 ((z.toNat + 1) % 256) := by
  rw [pointerNext, zext16, hi_word, lo_word]
  exact zext16_add_eq_ofNat z 1

/-! ### The indexed modes -/

/-- What an index does to an address, as abx, aby and izy use it (R148, R149, R153). -/
theorem indexed_spec (base : Word) (index : Byte) (s : State) :
    (Resolved.indexed base index s).kind = .mem ∧
      (Resolved.indexed base index s).ea.toNat = (base.toNat + index.toNat) % 65536 ∧
      ((Resolved.indexed base index s).crossed = true ↔ 256 ≤ base.toNat % 256 + index.toNat) ∧
      (Resolved.indexed base index s).state = s :=
  ⟨rfl, toNat_add_zext16 base index, bne_iff_ne.trans (hi_add_zext16_ne_iff base index), rfl⟩

/-! ### The mnemonics of a mode -/

/-- The modes a mnemonic's Encoding lines list are the modes its instructions have (R116). -/
theorem mnemonic_mem_of_tag {tag : Tag} {ms : List Mnemonic} (hforms : ∀ m, ∀ f ∈ formsOf m, f.tag = tag → m ∈ ms)
    {i : Instr} (h : tagOf i.operand = tag) : i.mnemonic ∈ ms :=
  hforms i.mnemonic (formOf i) (encoded i) h

/-- The mnemonics with a form in zeropage-Y mode (R146). -/
theorem formsOf_zpy (m : Mnemonic) : ∀ f ∈ formsOf m, f.tag = .zpy → m ∈ [Mnemonic.ldx, .stx, .lax, .sax] := by
  cases m <;> decide

/-- The mnemonics with a form in accumulator mode (R142). -/
theorem formsOf_acc (m : Mnemonic) : ∀ f ∈ formsOf m, f.tag = .acc → m ∈ [Mnemonic.asl, .lsr, .rol, .ror] := by
  cases m <;> decide

/-- The mnemonics with a form in relative mode (R150). -/
theorem formsOf_rel (m : Mnemonic) :
    ∀ f ∈ formsOf m, f.tag = .rel → m ∈ [Mnemonic.bpl, .bmi, .bvc, .bvs, .bcc, .bcs, .bne, .beq] := by
  cases m <;> decide

/-! ### The obligations on the resolver -/

/-- Settles O21: the index is added as a byte, and four mnemonics list a form in zeropage-Y mode. -/
theorem zeroPageModes : Obligations.ZeroPageModes := by
  refine ⟨fun z s => ?_, fun z s => ?_, fun z s => ?_, fun i z h => mnemonic_mem_of_tag formsOf_zpy (by rw [h, tagOf])⟩
  · rw [resolve, zext16_eq_ofNat]
  · rw [resolve, zext16_add_eq_ofNat]
  · rw [resolve, zext16_add_eq_ofNat]

/-- Settles O22: abx and aby are one indexed address, the other modes carry theirs; an immediate alone is not read at EA. -/
theorem absoluteIndexedModes : Obligations.AbsoluteIndexedModes := by
  refine ⟨fun base s => ⟨rfl, indexed_spec base s.x s, indexed_spec base s.y s⟩,
    fun v s => ⟨?_, ?_, ⟨rfl, rfl, rfl⟩, rfl, rfl, rfl⟩,
    fun i => ⟨fun h => ?_, fun v h => ?_, fun s => ⟨fun v h => ?_, fun h => ?_⟩⟩⟩
  · rw [resolve, BitVec.ofNat_add, ← eq_ofNat_of_toNat rfl]
    rfl
  · rw [resolve, zext16_eq_ofNat]
  · exact mnemonic_mem_of_tag formsOf_acc (by rw [h, tagOf])
  · exact mnemonic_mem_of_tag formsOf_rel (by rw [h, tagOf])
  · rw [operandOf, readState, h]
    exact ⟨rfl, rfl⟩
  · exact ⟨operandByte_eq_peek h _, afterOperand_eq_afterRead h _⟩

/-- Settles O23: a pointer's high byte is at `pointerNext`, which stays in the pointer's page. -/
theorem pointerModes : Obligations.PointerModes := by
  refine ⟨fun ptr s => ?_, fun z s => ?_, fun z s => ?_⟩
  · dsimp only
    rw [← pointerNext_eq_ofNat]
    rfl
  · have hnext : pointerNext (zext16 (z + s.x)) = BitVec.ofNat 16 ((z.toNat + s.x.toNat + 1) % 256) := by
      rw [pointerNext_zext16, BitVec.toNat_add, Nat.mod_add_mod]
    dsimp only
    rw [← hnext, ← zext16_add_eq_ofNat]
    rfl
  · dsimp only
    rw [← pointerNext_zext16, ← zext16_eq_ofNat]
    exact ⟨rfl, rfl, toNat_add_zext16 _ s.y, bne_iff_ne, rfl⟩

end Sys2Proof.Machine
end

section
/-! PROOFS. Loads, stores and transfers (R170 to R181). A load and a transfer alike write one register and set N and Z by it:
`State.load`, whose frame is said once, for a register that a parameter names. -/

namespace Sys2Proof.Machine

/-! ### Changes of registers and flags alone -/

theorem Untouched.trans {regs : List Reg} {flags : List Flag} {s t u : State} (h : Untouched regs flags s t)
    (h' : Untouched regs flags t u) : Untouched regs flags s u where
  regs r hr := (h'.regs r hr).trans (h.regs r hr)
  flags f hf := (h'.flags f hf).trans (h.flags f hf)
  pc := h'.pc.trans h.pc
  cycles := h'.cycles.trans h.cycles
  setup := h'.setup.trans h.setup
  halted := h'.halted.trans h.halted
  env := h'.env.trans h.env
  epoch := h'.epoch.trans h.epoch
  draws := h'.draws.trans h.draws

/-- Reading the operand is no part of an instruction's effect proper: only the device port sees it (R76, R140). -/
theorem untouched_readState (i : Instr) (s : State) (regs : List Reg) (flags : List Flag) :
    Untouched regs flags s (readState i s) := by
  constructor
  case regs => intro r _; cases r <;> simp [readState, State.reg]
  all_goals simp [readState]

/-- Beside what no instruction's effect proper may touch, memory, the latch and the device port are as they were. -/
structure ChangesOnly (regs : List Reg) (flags : List Flag) (s u : State) : Prop extends Untouched regs flags s u where
  ram : u.ram = s.ram
  latch : u.latch = s.latch
  portLog : u.portLog = s.portLog

section
variable {regs : List Reg} {flags : List Flag} {s t u : State}

theorem ChangesOnly.trans (h : ChangesOnly regs flags s t) (h' : ChangesOnly regs flags t u) :
    ChangesOnly regs flags s u where
  toUntouched := h.toUntouched.trans h'.toUntouched
  ram := h'.ram.trans h.ram
  latch := h'.latch.trans h.latch
  portLog := h'.portLog.trans h.portLog

/-- Such a change and the end of the instruction are an implied instruction's effect (R141). -/
theorem ChangesOnly.impliedEffect (h : ChangesOnly regs flags s u) (i : Instr) :
    ImpliedEffect i regs flags s (retire i false u) :=
  implied_effect h.toUntouched h.ram h.latch h.portLog

/-- Such a change after the operand was read, and the end of the instruction, are the read class's effect (R157). -/
theorem ChangesOnly.readEffect {i : Instr} (h : ChangesOnly regs flags (readState i s) u) :
    ReadEffect i regs flags s (retire i (crosses i s) u) :=
  read_effect ((untouched_readState i s regs flags).trans h.toUntouched) (h.ram.trans (by simp [readState]))
    (h.latch.trans (by simp [readState])) h.portLog

theorem changesOnly_withReg (s : State) (v : Byte) {r : Reg} (h : r ∈ regs) :
    ChangesOnly regs flags s (s.withReg v r) := by
  have hreg : ∀ r', r' ∉ regs → (s.withReg v r).reg r' = s.reg r' := fun r' hr' => by
    have hne : r' ≠ r := fun e => hr' (e ▸ h)
    rw [s.reg_withReg, if_neg hne]
  cases r <;> exact ⟨⟨hreg, fun _ _ => rfl, rfl, rfl, rfl, rfl, rfl, rfl, rfl⟩, rfl, rfl, rfl⟩

theorem changesOnly_setP {p : Byte} (h : ∀ f, f ∉ flags → getFlag f p = getFlag f s.p) :
    ChangesOnly regs flags s { s with p := p } :=
  ⟨⟨fun r _ => by cases r <;> rfl, h, rfl, rfl, rfl, rfl, rfl, rfl, rfl⟩, rfl, rfl, rfl⟩

end

/-! ### A register with N and Z -/

/-- SetNZ gives P the N and Z of its byte (R11). -/
theorem nzOf_putNZ (v p : Byte) : NZOf v (putNZ v p) := by
  simp [NZOf]

/-- SetNZ writes N and Z alone (R11). -/
theorem changesOnly_putNZ (s : State) (v : Byte) (regs : List Reg) :
    ChangesOnly regs [.n, .z] s { s with p := putNZ v s.p } :=
  changesOnly_setP fun f hf => by
    obtain ⟨hn, hz⟩ : f ≠ .n ∧ f ≠ .z := by simpa using hf
    rw [getFlag_putNZ, if_neg hz, if_neg hn]

/-- A register written, with SetNZ: what R170 to R172 do to A, X and Y. -/
def State.load (s : State) (v : Byte) (r : Reg) : State := { s with p := putNZ v s.p }.withReg v r

theorem loadA_eq_load (v : Byte) (s : State) : loadA v s = s.load v .a := rfl
theorem loadX_eq_load (v : Byte) (s : State) : loadX v s = s.load v .x := rfl
theorem loadY_eq_load (v : Byte) (s : State) : loadY v s = s.load v .y := rfl

theorem State.load_reg (s : State) (v : Byte) (r : Reg) : (s.load v r).reg r = v := by
  rw [State.load, State.reg_withReg, if_pos rfl]

theorem State.load_p (s : State) (v : Byte) (r : Reg) : (s.load v r).p = putNZ v s.p := by
  cases r <;> rfl

theorem changesOnly_load (s : State) (v : Byte) (r : Reg) : ChangesOnly [r] [.n, .z] s (s.load v r) :=
  (changesOnly_putNZ s v [r]).trans (changesOnly_withReg _ v (List.mem_singleton.2 rfl))

/-- An instruction of the read class that loads its operand byte. -/
theorem readOp_load (i : Instr) (s : State) (r : Reg) {f : Byte → State → State} (hf : ∀ v u, f v u = u.load v r) :
    ∃ t, readOp i f s = .next t ∧ t.reg r = operandOf i s ∧ NZOf (t.reg r) t.p ∧ ReadEffect i [r] [.n, .z] s t := by
  refine ⟨_, readOp_eq i f s, ?_⟩
  rw [hf, retire_reg, State.load_reg, retire_p, State.load_p]
  exact ⟨rfl, nzOf_putNZ _ _, (changesOnly_load _ _ r).readEffect⟩

/-- An implied instruction that loads a byte of the state. -/
theorem impliedOp_load (i : Instr) (s : State) (r : Reg) {f : State → State} {v : Byte} (hf : f s = s.load v r) :
    ∃ t, impliedOp i f s = .next t ∧ t.reg r = v ∧ NZOf v t.p ∧ ImpliedEffect i [r] [.n, .z] s t := by
  refine ⟨_, rfl, ?_⟩
  rw [hf, retire_reg, State.load_reg, retire_p, State.load_p]
  exact ⟨rfl, nzOf_putNZ _ _, (changesOnly_load s v r).impliedEffect i⟩

/-! ### The obligations on loads, stores and transfers -/

/-- Settles O28: each is the read class with its register loaded. -/
theorem loads : Obligations.Loads := by
  refine fun i s => ⟨fun h => ?_, fun h => ?_, fun h => ?_⟩ <;> rw [exec_of_mnemonic h]
  · exact readOp_load i s .a loadA_eq_load
  · exact readOp_load i s .x loadX_eq_load
  · exact readOp_load i s .y loadY_eq_load

/-- Settles O29: each is the write class, and the pointer reads leave the register that is stored. -/
theorem stores : Obligations.Stores := by
  refine fun i s => ⟨fun h => ?_, fun h => ?_, fun h => ?_⟩ <;> rw [exec_of_mnemonic h]
  · exact write_effect i State.a s (resolve_a i.operand s)
  · exact write_effect i State.x s (resolve_x i.operand s)
  · exact write_effect i State.y s (resolve_y i.operand s)

/-- Settles O30: five load one register from another; TXS writes S and no flag. -/
theorem transfers : Obligations.Transfers := fun s =>
  ⟨impliedOp_load .tax s .x (loadX_eq_load s.a s), impliedOp_load .tay s .y (loadY_eq_load s.a s),
    impliedOp_load .txa s .a (loadA_eq_load s.x s), impliedOp_load .tya s .a (loadA_eq_load s.y s),
    impliedOp_load .tsx s .x (loadX_eq_load s.sp s),
    ⟨_, rfl, rfl, (changesOnly_withReg s s.x (List.mem_singleton.2 rfl : Reg.s ∈ [Reg.s])).impliedEffect .txs⟩⟩

end Sys2Proof.Machine
end

section
/-! PROOFS. PHA, PHP, PLA and PLP (R190 to R193): a push writes one byte of page 1 and S, a pull writes S alone; what the
instruction does with the byte is a change of registers and flags. -/

namespace Sys2Proof.Machine

/-! ### The effect of a push and of a pull -/

/-- An instruction that stacks bytes and moves on. -/
theorem stack_effect {i : Instr} {bytes : List (Word × Byte)} {regs : List Reg} {flags : List Flag} {s u : State}
    (h : Untouched regs flags s u) (hst : Stacked bytes s u) : StackEffect i bytes regs flags s (retire i false u) :=
  ⟨encoded i, h.kept i _, hst.congr rfl rfl rfl rfl rfl rfl rfl rfl, h.draws, retired_retire h.pc h.cycles h.setup⟩

/-- A change of registers and flags alone stacks nothing. -/
theorem ChangesOnly.stackEffect {regs : List Reg} {flags : List Flag} {s u : State} (h : ChangesOnly regs flags s u)
    (i : Instr) : StackEffect i [] regs flags s (retire i false u) :=
  stack_effect h.toUntouched (stacked_nil h.ram h.epoch h.latch h.portLog)

/-- A push touches S beside the byte it stacks (R28). -/
theorem untouched_push (s : State) (v : Byte) : Untouched [.s] [] s (push s v) := by
  constructor
  case regs =>
    intro r hr
    cases r
    case s => exact absurd (List.mem_singleton.2 rfl) hr
    all_goals simp [State.reg]
  all_goals simp

/-- A pull changes S alone (R29). -/
theorem changesOnly_afterPull (s : State) {regs : List Reg} {flags : List Flag} (h : .s ∈ regs) :
    ChangesOnly regs flags s (afterPull s) := by
  rw [afterPull_eq]
  exact changesOnly_withReg s (s.sp + 1) h

/-- An instruction that may change no flag leaves P. -/
theorem Kept.p_eq {regs : List Reg} {s t : State} (h : Kept regs [] s t) : t.p = s.p :=
  eq_of_getFlag fun f => h.flags f List.not_mem_nil

/-- An implied instruction that pushes a byte of the state. -/
theorem impliedOp_push (i : Instr) (s : State) (v : State → Byte) :
    ∃ t, impliedOp i (fun u => push u (v u)) s = .next t ∧ t.sp = s.sp - 1 ∧
      StackEffect i [(stackAddr s.sp, v s)] [.s] [] s t :=
  ⟨_, rfl, push_sp s (v s), stack_effect (untouched_push s (v s)) (stacked_push s (v s))⟩

/-! ### PLA and PLP -/

theorem exec_pla (s : State) :
    ∃ t, exec .pla s = .next t ∧ t.sp = s.sp + 1 ∧ t.a = ramByte s (stackAddr (s.sp + 1)) ∧ NZOf t.a t.p ∧
      StackEffect .pla [] [.a, .s] [.n, .z] s t := by
  have hload : ChangesOnly [.a, .s] [.n, .z] s ((afterPull s).load (pulled s) .a) :=
    ((changesOnly_afterPull s (by simp)).trans (changesOnly_putNZ _ (pulled s) _)).trans
      (changesOnly_withReg _ (pulled s) (by simp))
  exact ⟨_, rfl, afterPull_sp s, pulled_eq s, nzOf_putNZ _ _, hload.stackEffect .pla⟩

theorem exec_plp (s : State) :
    ∃ t, exec .plp s = .next t ∧ t.sp = s.sp + 1 ∧ t.p = ramByte s (stackAddr (s.sp + 1)) ||| 0x20 ∧
      StackEffect .plp [] [.s] allFlags s t := by
  have hp : ChangesOnly [.s] allFlags s { afterPull s with p := restoredP (pulled s) } :=
    (changesOnly_afterPull s (by simp)).trans
      (changesOnly_setP fun f hf => absurd (by cases f <;> decide) hf)
  exact ⟨_, rfl, afterPull_sp s, congrArg restoredP (pulled_eq s), hp.stackEffect .plp⟩

/-! ### The obligations on the stack instructions -/

/-- Settles O31: PHA is a push; PLA and PLP are a pull, and then a load of A or of all of P. -/
theorem phaPlaPlp : Obligations.PhaPlaPlp := fun s => ⟨impliedOp_push .pha s State.a, exec_pla s, exec_plp s⟩

/-- Settles O32: PHP moves S down by one, so PLP pulls the byte PHP stacked, which has bit 5 set already. -/
theorem phpThenPlp : Obligations.PhpThenPlp := by
  intro s
  obtain ⟨t, hphp, htsp, ht⟩ := impliedOp_push .php s fun u => pushedByProgram u.p
  obtain ⟨u, hplp, husp, hup, -⟩ := exec_plp t
  have hsp : t.sp + 1 = s.sp := by rw [htsp, BitVec.sub_add_cancel]
  have hbyte : ramByte t (stackAddr s.sp) = s.p ||| 0x30 := ht.stacked.pushed _ (List.mem_singleton.2 rfl)
  refine ⟨t, hphp, htsp, ht.kept.p_eq, ht, u, hplp, ?_, husp.trans hsp⟩
  rw [hup, hsp, hbyte, BitVec.or_assoc]
  rfl

end Sys2Proof.Machine
end

section
/-! PROOFS. Binary addition, subtraction and compare as integer arithmetic (R200, R202, R204). -/

namespace Sys2Proof.Machine

/-! ### Bytes as signed numbers -/

/-- Masking with the sign bit reads bit 7. -/
theorem and_signMask_ne_zero (x : Byte) : (x &&& 0x80 != 0) = x.getLsbD 7 := by
  rw [show (0x80 : Byte) = BitVec.twoPow 8 7 from rfl, BitVec.and_twoPow]
  cases x.getLsbD 7 <;> rfl

/-- Bit 7 is set from 128 up. -/
theorem getLsbD_seven (x : Byte) : x.getLsbD 7 = decide (128 ≤ x.toNat) := by
  rw [← x.msb_eq_decide, x.msb_eq_getLsbD_last]

/-- SBC's complement of the operand (R202). -/
theorem xor_ff (m : Byte) : m ^^^ 0xFF = ~~~m := BitVec.xor_allOnes

/-- The complement of a byte as a signed number. -/
theorem toInt_not_byte (m : Byte) : (~~~m).toInt = -1 - m.toInt := by
  have hm := m.isLt
  rw [BitVec.toInt_eq_toNat_cond, BitVec.toInt_eq_toNat_cond, BitVec.toNat_not]
  omega

/-! ### Binary addition and subtraction -/

theorem toNat_addBinary (a m : Byte) (c : Bool) :
    (addBinary a m c).result.toNat = (a.toNat + m.toNat + c.toNat) % 256 := BitVec.toNat_ofNat _ _

/-- V is set exactly when the operands have the same bit 7 and the result has the other (R200). -/
theorem addBinary_v_iff (a m : Byte) (c : Bool) :
    (addBinary a m c).v = true ↔
      a.getLsbD 7 = m.getLsbD 7 ∧ a.getLsbD 7 ≠ (addBinary a m c).result.getLsbD 7 := by
  have hv : (addBinary a m c).v =
      (!(a.getLsbD 7 ^^ m.getLsbD 7) && (a.getLsbD 7 ^^ (addBinary a m c).result.getLsbD 7)) := by
    refine (and_signMask_ne_zero _).trans ?_
    simp [addBinary]
  rw [hv]
  cases a.getLsbD 7 <;> cases m.getLsbD 7 <;> simp

/-- V of an addition is signed overflow (R200). -/
theorem addBinary_v_iff_overflow (a m : Byte) (c : Bool) :
    (addBinary a m c).v = true ↔ a.toInt + m.toInt + c.toNat < -128 ∨ 127 < a.toInt + m.toInt + c.toNat := by
  have ha := a.isLt
  have hm := m.isLt
  have hc := c.toNat_le
  rw [addBinary_v_iff, getLsbD_seven, getLsbD_seven, getLsbD_seven, toNat_addBinary, a.toInt_eq_toNat_cond,
    m.toInt_eq_toNat_cond]
  simp only [ne_eq, decide_eq_decide]
  omega

/-- The difference mod 256 (R202). -/
theorem toNat_subBinary (a m : Byte) (c : Bool) :
    ((subBinary a m c).result.toNat : Int) = ((a.toNat : Int) - m.toNat - (1 - c.toNat : Nat)) % 256 := by
  have hm := m.isLt
  have hc := c.toNat_le
  rw [subBinary, toNat_addBinary, xor_ff, BitVec.toNat_not]
  omega

/-- C of a subtraction is not-borrow (R202). -/
theorem subBinary_c (a m : Byte) (c : Bool) :
    (subBinary a m c).c = decide (m.toNat + (1 - c.toNat) ≤ a.toNat) := by
  have hm := m.isLt
  have hc := c.toNat_le
  rw [subBinary, addBinary, xor_ff, BitVec.toNat_not, decide_eq_decide]
  omega

/-- V of a subtraction is signed overflow (R202). -/
theorem subBinary_v_iff_overflow (a m : Byte) (c : Bool) :
    (subBinary a m c).v = true ↔
      a.toInt - m.toInt - (1 - c.toNat : Nat) < -128 ∨ 127 < a.toInt - m.toInt - (1 - c.toNat : Nat) := by
  have hc := c.toNat_le
  rw [subBinary, addBinary_v_iff_overflow, xor_ff, toInt_not_byte]
  omega

/-- Settles O25: the sum's carries are integer comparisons; a subtraction adds the complement, 255 - m unsigned and -1 - m
signed. -/
theorem binaryArithmetic : Obligations.BinaryArithmetic := by
  refine ⟨fun a m c => ⟨toNat_addBinary a m c, rfl, rfl, rfl, rfl, addBinary_v_iff_overflow a m c⟩,
    fun a m c => ⟨rfl, toNat_subBinary a m c, subBinary_c a m c, rfl, rfl, ?_, subBinary_v_iff_overflow a m c⟩⟩
  have hnot : ~~~ (a ^^^ (m ^^^ 0xFF)) = a ^^^ m := by
    rw [xor_ff, ← BitVec.not_xor_right, BitVec.not_not]
  rw [← hnot]
  rfl

/-! ### Compare -/

/-- The flags a compare writes (R204). -/
theorem compareFlags_putCompare (r m p : Byte) : CompareFlags r m (putCompare r m p) := by
  have hz : (r - m == 0) = decide (r = m) := by
    rw [Bool.eq_iff_iff, beq_iff_eq, decide_eq_true_iff]
    exact sub_eq_zero
  refine ⟨?_, ?_, ?_⟩ <;> rw [getFlag_putCompare]
  · rfl
  · exact hz
  · rfl

/-- A compare writes no flag but N, Z and C (R204). -/
theorem getFlag_putCompare_of_ne {f : Flag} (hn : f ≠ .n) (hz : f ≠ .z) (hc : f ≠ .c) (r m p : Byte) :
    getFlag f (putCompare r m p) = getFlag f p := by
  rw [getFlag_putCompare, if_neg hc, if_neg hz, if_neg hn]

/-- Settles O27: the difference is zero exactly on equality, and it is the difference of the unsigned numbers mod 256. -/
theorem compareLaw : Obligations.CompareLaw := by
  intro r m p
  obtain ⟨hc, hz, hn⟩ := compareFlags_putCompare r m p
  have hsub : r - m = BitVec.ofNat 8 (r.toNat + 256 - m.toNat) := by
    have hm := m.isLt
    apply BitVec.eq_of_toNat_eq
    rw [BitVec.toNat_sub, BitVec.toNat_ofNat]
    omega
  refine ⟨hc, hz, hsub ▸ hn, fun f hf => ?_⟩
  obtain ⟨hfc, hfz, hfn⟩ : f ≠ .c ∧ f ≠ .z ∧ f ≠ .n := by simpa using hf
  exact getFlag_putCompare_of_ne hfn hfz hfc r m p

end Sys2Proof.Machine
end

section
/-! PROOFS. Decimal addition and subtraction, digit by digit (R201, R203). A byte is sixteen times its tens digit plus its units
digit; the correction by 6 of a digit, taken mod 16, is that digit mod 10 when the operands are valid BCD. -/

namespace Sys2Proof.Machine

/-! ### The digits of a byte -/

/-- The units digit of a byte. -/
theorem toNat_and_0f (x : Byte) : (x &&& 0x0F).toNat = x.toNat % 16 := by
  rw [BitVec.toNat_and]
  exact Nat.and_two_pow_sub_one_eq_mod x.toNat 4

/-- The tens digit of a byte, in place, is the byte without its units digit. -/
theorem and_f0 (x : Byte) : x &&& (0xF0 : Byte) = (x >>> 4) <<< 4 := by
  refine BitVec.eq_of_getLsbD_eq fun k hk => ?_
  interval_cases k <;> simp

theorem toNat_and_f0 (x : Byte) : (x &&& 0xF0).toNat = 16 * (x.toNat / 16) := by
  have hx := x.isLt
  rw [and_f0, BitVec.toNat_shiftLeft, BitVec.toNat_ushiftRight, Nat.shiftRight_eq_div_pow, Nat.shiftLeft_eq]
  omega

theorem toInt_and_f0 (x : Byte) : (x &&& 0xF0).toInt = 16 * (x.toInt / 16) := by
  have hx := x.isLt
  rw [BitVec.toInt_eq_toNat_cond, BitVec.toInt_eq_toNat_cond, toNat_and_f0]
  omega

/-! ### Decimal addition -/

/-- The units of a decimal addition before their correction (R201). -/
def unitsSum (a m : Byte) (c : Bool) : Nat := a.toNat % 16 + m.toNat % 16 + c.toNat

/-- The units digit of a decimal addition (R201). -/
def lowSum (a m : Byte) (c : Bool) : Nat :=
  if 10 ≤ unitsSum a m c then (unitsSum a m c + 6) % 16 else unitsSum a m c

/-- The carry out of the units digit (R201). -/
def halfCarry (a m : Byte) (c : Bool) : Nat := (decide (10 ≤ unitsSum a m c)).toNat

/-- The tens of a decimal addition before their correction (R201). -/
def tensSum (a m : Byte) (c : Bool) : Nat := a.toNat / 16 + m.toNat / 16 + halfCarry a m c

/-- The same with the operands read as signed (R201). -/
def signedTensSum (a m : Byte) (c : Bool) : Int := a.toInt / 16 + m.toInt / 16 + halfCarry a m c

theorem halfCarry_eq_ite (a m : Byte) (c : Bool) : halfCarry a m c = if 10 ≤ unitsSum a m c then 1 else 0 := by
  rw [halfCarry]
  split <;> simp [*]

theorem lowSum_lt (a m : Byte) (c : Bool) : lowSum a m c < 16 := by
  rw [lowSum]
  split <;> omega

/-- The corrected units: the carry is in the tens digit's place. -/
theorem correctedUnits_eq (a m : Byte) (c : Bool) :
    (if 0x0A ≤ unitsSum a m c then (unitsSum a m c + 0x06) % 16 + 0x10 else unitsSum a m c) =
      16 * halfCarry a m c + lowSum a m c := by
  rw [halfCarry_eq_ite, lowSum]
  split <;> omega

/-- A decimal addition, digit by digit (R201). -/
theorem addDecimal_eq (a m : Byte) (c : Bool) :
    addDecimal a m c =
      { result := BitVec.ofNat 8 (16 * (if 10 ≤ tensSum a m c then tensSum a m c + 6 else tensSum a m c) + lowSum a m c)
        n := decide (8 ≤ tensSum a m c % 16)
        v := decide (signedTensSum a m c < -8 ∨ 7 < signedTensSum a m c)
        z := decide ((a.toNat + m.toNat + c.toNat) % 256 = 0)
        c := decide (10 ≤ tensSum a m c) } := by
  have hlow := lowSum_lt a m c
  have hsum : 16 * (a.toNat / 16) + 16 * (m.toNat / 16) + (16 * halfCarry a m c + lowSum a m c) =
      16 * tensSum a m c + lowSum a m c := by rw [tensSum]; omega
  have hsigned : 16 * (a.toInt / 16) + 16 * (m.toInt / 16) + ((16 * halfCarry a m c + lowSum a m c : Nat) : Int) =
      16 * signedTensSum a m c + lowSum a m c := by rw [signedTensSum]; omega
  simp only [addDecimal, toNat_and_0f, toNat_and_f0, toInt_and_f0, ← unitsSum.eq_def, correctedUnits_eq, hsum, hsigned,
    AluResult.mk.injEq, getLsbD_seven, BitVec.toNat_ofNat, decide_eq_decide]
  refine ⟨congrArg _ ?_, ?_, ?_, rfl, ?_⟩
  · split <;> split <;> omega
  · omega
  · omega
  · split <;> omega

/-- The digits of the result (R201). -/
theorem toNat_addDecimal (a m : Byte) (c : Bool) :
    (addDecimal a m c).result.toNat =
      (if 10 ≤ tensSum a m c then tensSum a m c + 6 else tensSum a m c) % 16 * 16 + lowSum a m c := by
  have hlow := lowSum_lt a m c
  rw [addDecimal_eq, BitVec.toNat_ofNat]
  omega

/-- On valid BCD bytes the corrected units are the units mod 10, and the carry is their quotient (R201). -/
theorem units_of_bcd {a m : Byte} (c : Bool) (ha : BcdByte a) (hm : BcdByte m) :
    lowSum a m c = unitsSum a m c % 10 ∧ halfCarry a m c = unitsSum a m c / 10 := by
  have hc := c.toNat_le
  obtain ⟨-, ha0⟩ := ha
  obtain ⟨-, hm0⟩ := hm
  have hbound : unitsSum a m c ≤ 19 := by rw [unitsSum]; omega
  rw [lowSum, halfCarry_eq_ite]
  split <;> omega

/-- So are the corrected tens the tens mod 10 (R201). -/
theorem tens_of_bcd {a m : Byte} (c : Bool) (ha : BcdByte a) (hm : BcdByte m) :
    (if 10 ≤ tensSum a m c then tensSum a m c + 6 else tensSum a m c) % 16 = tensSum a m c % 10 := by
  have hc : halfCarry a m c ≤ 1 := Bool.toNat_le _
  obtain ⟨ha1, -⟩ := ha
  obtain ⟨hm1, -⟩ := hm
  have hbound : tensSum a m c ≤ 19 := by rw [tensSum]; omega
  split <;> omega

/-- On valid BCD bytes: the two-digit decimal sum with its carry (R201). -/
theorem addDecimal_bcd {a m : Byte} (c : Bool) (ha : BcdByte a) (hm : BcdByte m) :
    BcdByte (addDecimal a m c).result ∧
      bcdValue (addDecimal a m c).result = (bcdValue a + bcdValue m + c.toNat) % 100 ∧
      (addDecimal a m c).c = decide (100 ≤ bcdValue a + bcdValue m + c.toNat) := by
  obtain ⟨hlow, hcarry⟩ := units_of_bcd c ha hm
  have hresult : (addDecimal a m c).result.toNat = tensSum a m c % 10 * 16 + unitsSum a m c % 10 := by
    rw [toNat_addDecimal, tens_of_bcd c ha hm, hlow]
  have hsum : bcdValue a + bcdValue m + c.toNat = 10 * tensSum a m c + unitsSum a m c % 10 := by
    rw [bcdValue, bcdValue, tensSum, hcarry, unitsSum]
    omega
  have hc : (addDecimal a m c).c = decide (10 ≤ tensSum a m c) := by rw [addDecimal_eq]
  rw [hsum, hc, decide_eq_decide, BcdByte, bcdValue, hresult]
  omega

/-! ### Decimal subtraction -/

/-- The units of a decimal subtraction before their correction (R203). -/
def unitsDiff (a m : Byte) (c : Bool) : Int := (a.toNat % 16 : Int) - (m.toNat % 16 : Int) - (1 - c.toNat : Nat)

/-- The units digit of a decimal subtraction (R203). -/
def lowDiff (a m : Byte) (c : Bool) : Int :=
  if unitsDiff a m c < 0 then (unitsDiff a m c - 6) % 16 else unitsDiff a m c

/-- The borrow out of the units digit (R203). -/
def halfBorrow (a m : Byte) (c : Bool) : Nat := (decide (unitsDiff a m c < 0)).toNat

/-- The tens of a decimal subtraction before their correction (R203). -/
def tensDiff (a m : Byte) (c : Bool) : Int := (a.toNat / 16 : Int) - (m.toNat / 16 : Int) - halfBorrow a m c

theorem halfBorrow_eq_ite (a m : Byte) (c : Bool) : halfBorrow a m c = if unitsDiff a m c < 0 then 1 else 0 := by
  rw [halfBorrow]
  split <;> simp [*]

theorem lowDiff_bounds (a m : Byte) (c : Bool) : 0 ≤ lowDiff a m c ∧ lowDiff a m c < 16 := by
  rw [lowDiff, unitsDiff]
  omega

/-- The corrected units: the borrow is in the tens digit's place. -/
theorem correctedUnitsDiff_eq (a m : Byte) (c : Bool) :
    (if unitsDiff a m c < 0 then (unitsDiff a m c - 0x06) % 16 - 0x10 else unitsDiff a m c) =
      lowDiff a m c - 16 * halfBorrow a m c := by
  rw [halfBorrow_eq_ite, lowDiff]
  split <;> simp

/-- The byte of a decimal subtraction, digit by digit (R203). -/
theorem subDecimalByte_eq (a m : Byte) (c : Bool) :
    subDecimalByte a m c =
      BitVec.ofInt 8 (16 * (if tensDiff a m c < 0 then tensDiff a m c - 6 else tensDiff a m c) + lowDiff a m c) := by
  obtain ⟨hlow, hlow'⟩ := lowDiff_bounds a m c
  have hunits : ((a.toNat % 16 : Nat) : Int) - (m.toNat % 16 : Nat) + c.toNat - 1 = unitsDiff a m c := by
    have hc := c.toNat_le
    rw [unitsDiff]
    omega
  have hdiff : ((16 * (a.toNat / 16) : Nat) : Int) - (16 * (m.toNat / 16) : Nat) + (lowDiff a m c - 16 * halfBorrow a m c) =
      16 * tensDiff a m c + lowDiff a m c := by rw [tensDiff]; omega
  simp only [subDecimalByte, toNat_and_0f, toNat_and_f0, hunits, correctedUnitsDiff_eq, hdiff]
  congr 1
  omega

/-- The digits of the result (R203). -/
theorem toNat_subDecimal (a m : Byte) (c : Bool) :
    ((subDecimal a m c).result.toNat : Int) =
      (if tensDiff a m c < 0 then tensDiff a m c - 6 else tensDiff a m c) % 16 * 16 + lowDiff a m c := by
  have hlow := lowDiff_bounds a m c
  rw [subDecimal, subDecimalByte_eq, BitVec.toNat_ofInt]
  omega

/-- On valid BCD bytes the corrected units are the units mod 10, and the borrow is their quotient (R203). -/
theorem unitsDiff_of_bcd {a m : Byte} (c : Bool) (ha : BcdByte a) (hm : BcdByte m) :
    lowDiff a m c = unitsDiff a m c % 10 ∧ (halfBorrow a m c : Int) = -(unitsDiff a m c / 10) := by
  have hc := c.toNat_le
  obtain ⟨-, ha0⟩ := ha
  obtain ⟨-, hm0⟩ := hm
  have hbound : -10 ≤ unitsDiff a m c ∧ unitsDiff a m c ≤ 9 := by rw [unitsDiff]; omega
  rw [lowDiff, halfBorrow_eq_ite]
  split <;> omega

/-- So are the corrected tens the tens mod 10 (R203). -/
theorem tensDiff_of_bcd {a m : Byte} (c : Bool) (ha : BcdByte a) (hm : BcdByte m) :
    (if tensDiff a m c < 0 then tensDiff a m c - 6 else tensDiff a m c) % 16 = tensDiff a m c % 10 := by
  have hc : halfBorrow a m c ≤ 1 := Bool.toNat_le _
  obtain ⟨ha1, -⟩ := ha
  obtain ⟨hm1, -⟩ := hm
  have hbound : -10 ≤ tensDiff a m c ∧ tensDiff a m c ≤ 9 := by rw [tensDiff]; omega
  split <;> omega

/-- On valid BCD bytes: the two-digit decimal difference with its not-borrow (R203). -/
theorem subDecimal_bcd {a m : Byte} (c : Bool) (ha : BcdByte a) (hm : BcdByte m) :
    BcdByte (subDecimal a m c).result ∧
      (bcdValue (subDecimal a m c).result : Int) = ((bcdValue a : Int) - bcdValue m - (1 - c.toNat : Nat)) % 100 ∧
      (subDecimal a m c).c = decide (bcdValue m + (1 - c.toNat) ≤ bcdValue a) := by
  obtain ⟨hlow, hborrow⟩ := unitsDiff_of_bcd c ha hm
  have hresult : ((subDecimal a m c).result.toNat : Int) = tensDiff a m c % 10 * 16 + unitsDiff a m c % 10 := by
    rw [toNat_subDecimal, tensDiff_of_bcd c ha hm, hlow]
  have hdiff : (bcdValue a : Int) - bcdValue m - (1 - c.toNat : Nat) = 10 * tensDiff a m c + unitsDiff a m c % 10 := by
    rw [bcdValue, bcdValue, tensDiff, hborrow, unitsDiff]
    omega
  have hc : (subDecimal a m c).c = decide (m.toNat + (1 - c.toNat) ≤ a.toNat) := subBinary_c a m c
  obtain ⟨ha1, ha0⟩ := ha
  obtain ⟨hm1, hm0⟩ := hm
  rw [hdiff, hc, decide_eq_decide, BcdByte, bcdValue, bcdValue, bcdValue]
  omega

/-- Settles O26: a decimal sum or difference is sixteen times its tens plus its units digit. -/
theorem decimalArithmetic : Obligations.DecimalArithmetic := by
  refine ⟨fun a m c => ?_, fun a m c => ⟨toNat_subDecimal a m c, rfl, rfl, rfl, rfl, subDecimal_bcd c⟩⟩
  have heq := addDecimal_eq a m c
  exact ⟨toNat_addDecimal a m c, congrArg AluResult.c heq, congrArg AluResult.n heq,
    (congrArg AluResult.v heq) ▸ decide_eq_true_iff, congrArg AluResult.z heq, addDecimal_bcd c⟩

end Sys2Proof.Machine
end

section
/-! PROOFS. ADC, SBC, CMP, CPX and CPY (R205 to R209): the read class, with the arithmetic's result in A and its flags in P. -/

namespace Sys2Proof.Machine

/-! ### The flags an addition, a subtraction or a compare writes -/

/-- The flags of an addition or subtraction (R200 to R203). -/
theorem aluFlags_putAlu (r : AluResult) (p : Byte) : AluFlags r (putAlu r p) := by
  simp [AluFlags]

/-- An addition or subtraction writes N, V, Z and C alone (R205, R206). -/
theorem changesOnly_putAlu (s : State) (r : AluResult) (regs : List Reg) :
    ChangesOnly regs [.n, .v, .z, .c] s { s with p := putAlu r s.p } :=
  changesOnly_setP fun f hf => by
    obtain ⟨hn, hv, hz, hc⟩ : f ≠ .n ∧ f ≠ .v ∧ f ≠ .z ∧ f ≠ .c := by simpa using hf
    rw [getFlag_putAlu, if_neg hc, if_neg hz, if_neg hv, if_neg hn]

/-- A compare writes N, Z and C alone (R204). -/
theorem changesOnly_putCompare (s : State) (r m : Byte) (regs : List Reg) :
    ChangesOnly regs [.n, .z, .c] s { s with p := putCompare r m s.p } :=
  changesOnly_setP fun f hf => by
    obtain ⟨hn, hz, hc⟩ : f ≠ .n ∧ f ≠ .z ∧ f ≠ .c := by simpa using hf
    exact getFlag_putCompare_of_ne hn hz hc r m s.p

/-! ### The instructions -/

/-- A with the four flags: what R205 and R206 do with the result of their arithmetic. -/
def State.accumulate (s : State) (r : AluResult) : State := { s with p := putAlu r s.p }.withReg r.result .a

theorem adcEffect_eq_accumulate (m : Byte) (s : State) : adcEffect m s = s.accumulate (addByMode s.p s.a m) := rfl
theorem sbcEffect_eq_accumulate (m : Byte) (s : State) : sbcEffect m s = s.accumulate (subByMode s.p s.a m) := rfl

theorem changesOnly_accumulate (s : State) (r : AluResult) :
    ChangesOnly [.a] [.n, .v, .z, .c] s (s.accumulate r) :=
  (changesOnly_putAlu s r [.a]).trans (changesOnly_withReg _ r.result (List.mem_singleton.2 rfl))

/-- An instruction of the read class that adds its operand byte to A or subtracts it, `alu` being its arithmetic of P, A and M. -/
theorem readOp_accumulate (i : Instr) (s : State) {f : Byte → State → State} {alu : Byte → Byte → Byte → AluResult}
    (hf : ∀ m u, f m u = u.accumulate (alu u.p u.a m)) :
    ∃ t, readOp i f s = .next t ∧
      (t.a = (alu s.p s.a (operandOf i s)).result ∧ AluFlags (alu s.p s.a (operandOf i s)) t.p) ∧
      ReadEffect i [.a] [.n, .v, .z, .c] s t := by
  have hp : (readState i s).p = s.p := by simp [readState]
  have ha : (readState i s).a = s.a := by simp [readState]
  refine ⟨_, readOp_eq i f s, ?_⟩
  rw [hf, hp, ha]
  exact ⟨⟨rfl, aluFlags_putAlu _ _⟩, (changesOnly_accumulate _ _).readEffect⟩

/-- An instruction of the read class that compares its operand byte with the value `r` gives. -/
theorem readOp_compare (i : Instr) (s : State) (r : State → Byte) (hr : r (readState i s) = r s) :
    ∃ t, readOp i (fun m u => { u with p := putCompare (r u) m u.p }) s = .next t ∧
      CompareFlags (r s) (operandOf i s) t.p ∧ ReadEffect i [] [.n, .z, .c] s t := by
  refine ⟨_, readOp_eq i _ s, ?_⟩
  rw [hr]
  exact ⟨compareFlags_putCompare _ _ _, (changesOnly_putCompare _ _ _ []).readEffect⟩

/-! ### The obligations on ADC, SBC and the compares -/

/-- Settles O33: both are the read class, with the arithmetic that P.D selects. -/
theorem adcAndSbc : Obligations.AdcAndSbc := by
  refine fun i s => ⟨fun h => ?_, fun h => ?_⟩ <;> rw [exec_of_mnemonic h]
  · exact readOp_accumulate i s adcEffect_eq_accumulate
  · exact readOp_accumulate i s sbcEffect_eq_accumulate

/-- Settles O34: each is the read class, and reading the operand leaves the register that is compared. -/
theorem compares : Obligations.Compares := by
  refine fun i s => ⟨fun h => ?_, fun h => ?_, fun h => ?_⟩ <;> rw [exec_of_mnemonic h]
  · exact readOp_compare i s State.a (by simp [readState])
  · exact readOp_compare i s State.x (by simp [readState])
  · exact readOp_compare i s State.y (by simp [readState])

end Sys2Proof.Machine
end

section
/-! PROOFS. AND, ORA, EOR and BIT (R220 to R223): the read class; the first three load A with a bitwise operation of A and M, BIT
writes three flags. -/

namespace Sys2Proof.Machine

/-- An instruction of the read class that loads A with `op` of A and its operand byte. -/
theorem readOp_loadA (i : Instr) (s : State) (op : Byte → Byte → Byte) :
    ∃ t, readOp i (fun m u => loadA (op u.a m) u) s = .next t ∧ t.a = op s.a (operandOf i s) ∧ NZOf t.a t.p ∧
      ReadEffect i [.a] [.n, .z] s t := by
  have ha : (readState i s).a = s.a := by simp [readState]
  refine ⟨_, readOp_eq i _ s, ?_⟩
  rw [ha]
  exact ⟨rfl, nzOf_putNZ _ _, (changesOnly_load _ _ .a).readEffect⟩

/-- A flag of P after BIT (R223). -/
@[simp] theorem getFlag_putBit (f : Flag) (a m p : Byte) :
    getFlag f (putBit a m p) =
      if f = .v then m.getLsbD 6 else if f = .n then m.getLsbD 7 else if f = .z then a &&& m == 0 else getFlag f p := by
  simp [putBit]

/-- BIT writes N, V and Z alone (R223). -/
theorem changesOnly_putBit (s : State) (a m : Byte) (regs : List Reg) :
    ChangesOnly regs [.n, .v, .z] s { s with p := putBit a m s.p } :=
  changesOnly_setP fun f hf => by
    obtain ⟨hn, hv, hz⟩ : f ≠ .n ∧ f ≠ .v ∧ f ≠ .z := by simpa using hf
    rw [getFlag_putBit, if_neg hv, if_neg hn, if_neg hz]

/-- BIT takes Z from A and its operand byte, and N and V from the operand byte alone; A stays (R223). -/
theorem opBit_effect (i : Instr) (s : State) :
    ∃ t, opBit i s = .next t ∧ getFlag .z t.p = (s.a &&& operandOf i s == 0) ∧
      getFlag .n t.p = (operandOf i s).getLsbD 7 ∧ getFlag .v t.p = (operandOf i s).getLsbD 6 ∧
      ReadEffect i [] [.n, .v, .z] s t := by
  have ha : (readState i s).a = s.a := by simp [readState]
  refine ⟨_, readOp_eq i _ s, ?_, getFlag_putBit .n _ _ _, getFlag_putBit .v _ _ _,
    (changesOnly_putBit _ _ _ []).readEffect⟩
  rw [← ha]
  exact getFlag_putBit .z _ _ _

/-- Settles O35: three load A with a bitwise operation of A and M; BIT writes three flags and leaves A. -/
theorem logicAndBit : Obligations.LogicAndBit := by
  refine fun i s => ⟨fun h => ?_, fun h => ?_, fun h => ?_, fun h => ?_⟩ <;> rw [exec_of_mnemonic h]
  · exact readOp_loadA i s (· &&& ·)
  · exact readOp_loadA i s (· ||| ·)
  · exact readOp_loadA i s (· ^^^ ·)
  · exact opBit_effect i s

end Sys2Proof.Machine
end

section
/-! PROOFS. The shifts, rotates, increments and decrements (R230 to R239). On A or on memory a read-modify-write whose effect
after the write is on P alone is said once; a mnemonic adds its new operand and its flags. -/

namespace Sys2Proof.Machine

/-! ### The read-modify-write class -/

/-- A write through the bus touches memory, the latch and the device port alone (R71). -/
theorem untouched_busWrite (s : State) (a : Word) (v : Byte) (regs : List Reg) (flags : List Flag) :
    Untouched regs flags s (busWrite s a v) := by
  constructor
  case regs => intro r _; cases r <;> simp [State.reg]
  all_goals simp

/-- A change of registers and flags after the operand was read and written, and the end of the instruction, are the
read-modify-write class's effect (R240). -/
theorem ChangesOnly.modifyEffect {i : Instr} {new : Byte} {regs : List Reg} {flags : List Flag} {s u : State}
    (h : ChangesOnly regs flags (busWrite (readState i s) (addressOf i s) new) u) :
    ModifyEffect i new regs flags s (retire i (crosses i s) u) :=
  modify_effect (((untouched_readState i s regs flags).trans (untouched_busWrite _ _ _ regs flags)).trans h.toUntouched)
    h.ram h.latch h.portLog

section
variable {i : Instr} {flags : List Flag} {put : Byte → Byte → Byte → Byte}

/-- A read-modify-write on memory that ends by writing `flags`, as `put` of the old operand and the new one has them. -/
theorem modifyOp_mem_putP (ha : i.operand ≠ .acc) (hi : ∀ v, i.operand ≠ .imm v)
    (hput : ∀ f, f ∉ flags → ∀ old v p, getFlag f (put old v p) = getFlag f p) (new : Byte → Byte → Byte) (s : State) :
    ∃ t, modifyOp i new (fun old v u => { u with p := put old v u.p }) s = .next t ∧
      t.p = put (operandOf i s) (new (operandOf i s) s.p) s.p ∧
      ModifyEffect i (new (operandOf i s) s.p) [] flags s t := by
  refine ⟨_, modifyOp_mem ha hi new _ s, ?_, (changesOnly_setP fun f hf => hput f hf _ _ _).modifyEffect⟩
  simp [readState]

/-- The same on A, where no bus access is made (R240). -/
theorem modifyOp_acc_putP (ha : i.operand = .acc)
    (hput : ∀ f, f ∉ flags → ∀ old v p, getFlag f (put old v p) = getFlag f p) (new : Byte → Byte → Byte) (s : State) :
    ∃ t, modifyOp i new (fun old v u => { u with p := put old v u.p }) s = .next t ∧ t.a = new s.a s.p ∧
      t.p = put s.a (new s.a s.p) s.p ∧ ImpliedEffect i [.a] flags s t :=
  ⟨_, modifyOp_acc ha new _ s, rfl, rfl,
    ((changesOnly_withReg s (new s.a s.p) (List.mem_singleton.2 rfl : Reg.a ∈ [Reg.a])).trans
      (changesOnly_setP fun f hf => hput f hf _ _ _)).impliedEffect i⟩

end

/-! ### The new operands as numbers -/

theorem shiftLeft_eq_ofNat (v : Byte) : shiftLeft v = BitVec.ofNat 8 (v.toNat * 2) :=
  BitVec.eq_of_toNat_eq (by simp [shiftLeft, Nat.shiftLeft_eq])

theorem shiftRight_eq_ofNat (v : Byte) : shiftRight v = BitVec.ofNat 8 (v.toNat / 2) :=
  BitVec.eq_of_toNat_eq (by
    rw [shiftRight, BitVec.toNat_ushiftRight, BitVec.toNat_ofNat, Nat.shiftRight_eq_div_pow]
    omega)

/-- A carry that enters an empty bit is added to the byte. -/
theorem or_carry_eq_add {x : Byte} {n : Nat} (h : x.getLsbD n = false) (c : Bool) :
    x ||| (if c then BitVec.twoPow 8 n else 0) = x + BitVec.ofNat 8 (2 ^ n * c.toNat) := by
  have hempty : x &&& BitVec.twoPow 8 n = 0 := by rw [BitVec.and_twoPow, h]; rfl
  have hbit : BitVec.twoPow 8 n = BitVec.ofNat 8 (2 ^ n * 1) := BitVec.eq_of_toNat_eq (by simp)
  cases c
  · simp
  · rw [if_pos rfl, ← BitVec.add_eq_or_of_and_eq_zero _ _ hempty, hbit, Bool.toNat_true]

/-- The old carry enters bit 0, which the shift has left empty (R232). -/
theorem rotateLeft_eq_ofNat (v p : Byte) :
    rotateLeft v p = BitVec.ofNat 8 (v.toNat * 2 + (getFlag .c p).toNat) := by
  have hempty : (shiftLeft v).getLsbD 0 = false := by simp [shiftLeft]
  rw [BitVec.ofNat_add, ← shiftLeft_eq_ofNat, ← Nat.one_mul (getFlag .c p).toNat]
  exact or_carry_eq_add hempty (getFlag .c p)

/-- The old carry enters bit 7, which the shift has left empty (R233). -/
theorem rotateRight_eq_ofNat (v p : Byte) :
    rotateRight v p = BitVec.ofNat 8 (v.toNat / 2 + 128 * (getFlag .c p).toNat) := by
  have hempty : (shiftRight v).getLsbD 7 = false := by simp [shiftRight]
  rw [BitVec.ofNat_add, ← shiftRight_eq_ofNat]
  exact or_carry_eq_add hempty (getFlag .c p)

/-! ### Shifts and rotates -/

/-- A mnemonic shifts or rotates when it is the read-modify-write class and its new operand and flags are those of R230 to R233. -/
theorem shifts_of_modifyOp {m : Mnemonic} {new : Byte → Byte → Byte} {put : Byte → Byte → Byte → Byte}
    {spec : Byte → Bool → Byte} {out : Nat}
    (hop : ∀ i s, meaning m i s = modifyOp i new (fun old v u => { u with p := put old v u.p }) s)
    (hm : m ∈ modifiers) (hnew : ∀ v p, new v p = spec v (getFlag .c p))
    (hput : ∀ f old v p, getFlag f (put old v p) =
      if f = .z then v == 0 else if f = .n then v.getLsbD 7 else if f = .c then old.getLsbD out else getFlag f p) :
    Shifts m spec out := by
  intro i s hi
  have hframe : ∀ f, f ∉ [Flag.n, .z, .c] → ∀ old v p, getFlag f (put old v p) = getFlag f p := by
    intro f hf old v p
    obtain ⟨hn, hz, hc⟩ : f ≠ .n ∧ f ≠ .z ∧ f ≠ .c := by simpa using hf
    rw [hput, if_neg hz, if_neg hn, if_neg hc]
  have hnz : ∀ old v, NZOf v (put old v s.p) := fun old v => ⟨hput .n old v s.p, hput .z old v s.p⟩
  have hc : ∀ old v, getFlag .c (put old v s.p) = old.getLsbD out := fun old v => hput .c old v s.p
  rw [exec_of_mnemonic hi, hop]
  refine ⟨fun hacc => ?_, fun hmem => ?_⟩
  · obtain ⟨t, ht, hta, htp, heff⟩ := modifyOp_acc_putP hacc hframe new s
    rw [← hta] at htp
    exact ⟨t, ht, hta.trans (hnew _ _), htp ▸ hnz _ _, htp ▸ hc _ _, heff⟩
  · obtain ⟨t, ht, htp, heff⟩ := modifyOp_mem_putP hmem (modify_not_imm (hi ▸ hm)) hframe new s
    rw [hnew] at htp heff
    exact ⟨t, ht, htp ▸ hnz _ _, htp ▸ hc _ _, heff⟩

/-! ### Increments and decrements -/

/-- Only the four shifts and rotates have an accumulator mode (R142). -/
theorem operand_ne_acc {i : Instr} (h : i.mnemonic ∉ [Mnemonic.asl, .lsr, .rol, .ror]) : i.operand ≠ .acc := fun hacc =>
  h (mnemonic_mem_of_tag formsOf_acc (by rw [hacc, tagOf]))

/-- A read-modify-write of memory whose new operand is `count` of the old one, with SetNZ (R234, R235). -/
theorem modifyOp_count {i : Instr} (hacc : i.operand ≠ .acc) (himm : ∀ v, i.operand ≠ .imm v) (count : Byte → Byte)
    (s : State) :
    ∃ t, modifyOp i (fun v _ => count v) afterCount s = .next t ∧ NZOf (count (operandOf i s)) t.p ∧
      ModifyEffect i (count (operandOf i s)) [] [.n, .z] s t := by
  have hframe : ∀ f, f ∉ [Flag.n, .z] → ∀ _old v p : Byte, getFlag f (putNZ v p) = getFlag f p := fun f hf _ v p =>
    (changesOnly_putNZ { s with p := p } v []).flags f hf
  obtain ⟨t, ht, htp, heff⟩ := modifyOp_mem_putP hacc himm hframe (fun v _ => count v) s
  exact ⟨t, ht, htp ▸ nzOf_putNZ _ _, heff⟩

/-- An implied instruction that loads a register with `count` of itself (R236 to R239). -/
theorem impliedOp_count (i : Instr) (r : Reg) (count : Byte → Byte) (s : State) :
    ∃ t, impliedOp i (fun u => u.load (count (u.reg r)) r) s = .next t ∧ t.reg r = count (s.reg r) ∧
      NZOf (t.reg r) t.p ∧ ImpliedEffect i [r] [.n, .z] s t := by
  obtain ⟨t, ht, hv, hnz, heff⟩ := impliedOp_load (f := fun u => u.load (count (u.reg r)) r) i s r rfl
  exact ⟨t, ht, hv, hv.symm ▸ hnz, heff⟩

/-! ### The obligations on shifts, rotates, increments and decrements -/

/-- Settles O36: each is the read-modify-write class with its new operand, and the flags of a left shift or of a right one. -/
theorem shiftsAndRotates : Obligations.ShiftsAndRotates :=
  ⟨shifts_of_modifyOp (fun _ _ => rfl) (by decide) (fun v _ => shiftLeft_eq_ofNat v) getFlag_putLeft,
    shifts_of_modifyOp (fun _ _ => rfl) (by decide) (fun v _ => shiftRight_eq_ofNat v) getFlag_putRight,
    shifts_of_modifyOp (fun _ _ => rfl) (by decide) rotateLeft_eq_ofNat getFlag_putLeft,
    shifts_of_modifyOp (fun _ _ => rfl) (by decide) rotateRight_eq_ofNat getFlag_putRight⟩

/-- Settles O37: INC and DEC count a byte of memory, the other four load a register with a count of itself. -/
theorem incrementsAndDecrements : Obligations.IncrementsAndDecrements := by
  refine ⟨fun i s => ⟨fun h => ?_, fun h => ?_⟩, fun s => ⟨?_, ?_, ?_, ?_⟩⟩
  · rw [exec_of_mnemonic h]
    exact modifyOp_count (operand_ne_acc (by simp [h])) (modify_not_imm (by simp [h])) (· + 1) s
  · rw [exec_of_mnemonic h]
    exact modifyOp_count (operand_ne_acc (by simp [h])) (modify_not_imm (by simp [h])) (· - 1) s
  · exact impliedOp_count .inx .x (· + 1) s
  · exact impliedOp_count .iny .y (· + 1) s
  · exact impliedOp_count .dex .x (· - 1) s
  · exact impliedOp_count .dey .y (· - 1) s

end Sys2Proof.Machine
end

section
/-! PROOFS. JMP, JSR, RTS and RTI (R250 to R253). A control transfer is a change of registers, flags and the stack, then
`State.transfer`: its cycles, and PC set to its target; what that end leaves alone is said once. -/

namespace Sys2Proof.Machine

/-! ### The end of a control transfer -/

/-- The end of a control transfer: its cycles, and PC set to the target (R110). -/
def State.transfer (u : State) (i : Instr) (target : Word) (extra : Nat) : State :=
  { account i extra u with pc := target }

/-- The end of a control transfer leaves every byte register. -/
@[simp] theorem State.transfer_reg (u : State) (i : Instr) (target : Word) (extra : Nat) (r : Reg) :
    (u.transfer i target extra).reg r = u.reg r := by cases r <;> rfl

/-- Resolving the operand is no part of an instruction's effect proper: only the device port sees it (R140). -/
theorem untouched_resolvedState (i : Instr) (s : State) (regs : List Reg) (flags : List Flag) :
    Untouched regs flags s (resolvedState i s) := by
  constructor
  case regs => intro r _; cases r <;> simp [resolvedState, State.reg]
  all_goals simp [resolvedState]

section
variable {i : Instr} {bytes : List (Word × Byte)} {regs : List Reg} {flags : List Flag} {s u : State} {target : Word}
  {extra : Nat}

/-- An effect proper from the resolved operand on, with the bytes it stacks, and the end of the instruction. -/
theorem transfer_effect (h : Untouched regs flags (resolvedState i s) u) (hst : Stacked bytes (resolvedState i s) u) :
    TransferEffect i target extra bytes regs flags s (u.transfer i target extra) := by
  have hu : Untouched regs flags s u := (untouched_resolvedState i s regs flags).trans h
  refine ⟨encoded i, rfl, ?_, ⟨fun r hr => ?_, hu.flags, hu.setup, hu.halted, hu.env, hu.epoch⟩,
    hst.congr rfl rfl rfl rfl rfl rfl rfl rfl, hu.draws⟩
  · exact ⟨by rw [← hu.cycles, ← hu.setup]; rfl, by rw [← hu.setup]; rfl⟩
  · rw [State.transfer_reg, hu.regs r hr]

/-- The same when memory, the latch and the device port are left alone. -/
theorem ChangesOnly.transferEffect (h : ChangesOnly regs flags (resolvedState i s) u) :
    TransferEffect i target extra [] regs flags s (u.transfer i target extra) :=
  transfer_effect h.toUntouched (stacked_nil h.ram h.epoch h.latch h.portLog)

theorem ChangesOnly.refl (s : State) : ChangesOnly regs flags s s := changesOnly_setP fun _ _ => rfl

end

/-! ### Jumps and subroutines -/

/-- Only opcode $6C has a form in indirect mode (R250). -/
theorem formsOf_ind (m : Mnemonic) : ∀ f ∈ formsOf m, f.tag = .ind → f.opcode = 0x6C := by
  cases m <;> decide

/-- The instruction with an indirect operand is JMP's: the opcode map rebuilds it from opcode $6C and the pointer's bytes. -/
theorem eq_jmpInd {i : Instr} {ptr : Word} (h : i.operand = .ind ptr) : i = .jmpInd ptr := by
  have hop : i.opcode = 0x6C := formsOf_ind i.mnemonic (formOf i) (encoded i) (by rw [formOf, h, tagOf])
  have hbuilt : (template i.opcode).rebuild i.operand.bytes = some i := fetchForm i
  rw [hop, h] at hbuilt
  rw [← Option.some.inj hbuilt, word_hi_lo]

/-- JMP goes to the address its operand resolves to, which is not read (R250). -/
theorem opJmp_effect (i : Instr) (s : State) :
    ∃ t, opJmp i s = .next t ∧ TransferEffect i (addressOf i s) 0 [] [] [] s t ∧
      t.portLog = (resolvedState i s).portLog :=
  ⟨_, rfl, (ChangesOnly.refl (resolvedState i s)).transferEffect, rfl⟩

/-- Settles O38: both go to the address their operand resolves to; the pointer's two bytes are read from its page. -/
theorem jumps : Obligations.Jumps := by
  refine fun s => ⟨fun addr => ?_, fun ptr => ?_, fun _ _ => eq_jmpInd⟩
  · obtain ⟨t, ht, heff, -⟩ := opJmp_effect (.jmpAbs addr) s
    exact ⟨t, ht, heff⟩
  · dsimp only
    rw [← pointerNext_eq_ofNat]
    exact opJmp_effect (.jmpInd ptr) s

/-- Pushing a word touches S beside the bytes it stacks (R30). -/
theorem untouched_pushWord (s : State) (w : Word) : Untouched [.s] [] s (pushWord s w) :=
  (untouched_push s (hi w)).trans (untouched_push _ (lo w))

/-- Pulling a word changes S alone (R30). -/
theorem changesOnly_afterPullWord (s : State) : ChangesOnly [.s] [] s (afterPullWord s) :=
  (changesOnly_afterPull s (by simp)).trans (changesOnly_afterPull _ (by simp))

/-- Settles O39: JSR pushes a word and RTS pulls one, and each transfers. -/
theorem jsrAndRts : Obligations.JsrAndRts := by
  refine fun s => ⟨fun addr => ?_, ?_⟩
  · exact ⟨_, rfl, pushWord_sp s (s.pc + 2), transfer_effect (untouched_pushWord s _) (stacked_pushWord s _)⟩
  · rw [← pulledWord_eq]
    exact ⟨_, rfl, congrArg State.sp (afterPullWord_eq s), (changesOnly_afterPullWord s).transferEffect⟩

theorem Kept.trans {regs : List Reg} {flags : List Flag} {s t u : State} (h : Kept regs flags s t)
    (h' : Kept regs flags t u) : Kept regs flags s u where
  regs r hr := (h'.regs r hr).trans (h.regs r hr)
  flags f hf := (h'.flags f hf).trans (h.flags f hf)
  setup := h'.setup.trans h.setup
  halted := h'.halted.trans h.halted
  env := h'.env.trans h.env
  epoch := h'.epoch.trans h.epoch

/-- Where S alone may change and is back where it was, every byte register is. -/
theorem reg_eq_of_sp {s t : State} (hregs : ∀ r, r ∉ [Reg.s] → t.reg r = s.reg r) (hsp : t.sp = s.sp) (r : Reg) :
    t.reg r = s.reg r := by
  by_cases hr : r = .s
  · rw [hr]
    exact hsp
  · exact hregs r (by simpa using hr)

/-- Settles O40: JSR moves S down by two, so RTS pulls the word that JSR stacked, and S is back where it was. -/
theorem jsrThenRtsReturns : Obligations.JsrThenRtsReturns := by
  intro addr s
  obtain ⟨t, hjsr, htsp, ht⟩ := (jsrAndRts s).1 addr
  obtain ⟨u, hrts, husp, hu⟩ := (jsrAndRts t).2
  have hhi : t.sp + 2 = s.sp := by rw [htsp, BitVec.sub_add_cancel]
  have hlo : t.sp + 1 = s.sp - 1 := by rw [htsp]; bv_omega
  have hkept : Kept [.s] [] s u := ht.kept.trans hu.kept
  refine ⟨t, u, hjsr, hrts, ?_, { hkept with regs := fun r _ => reg_eq_of_sp hkept.regs (husp.trans hhi) r }⟩
  rw [hu.pc, hhi, hlo, ht.stacked.pushed (stackAddr s.sp, hi (s.pc + 2)) (by simp),
    ht.stacked.pushed (stackAddr (s.sp - 1), lo (s.pc + 2)) (by simp), word_hi_lo, BitVec.add_assoc]
  rfl

/-! ### RTI -/

/-- What RTI does to S and P before it sets PC (R253). -/
def State.pullP (s : State) : State :=
  { s with sp := s.sp + 3, p := restoredP (ramByte s (stackAddr (s.sp + 1))) }

/-- RTI is that, and a transfer to the word above the byte that P is pulled from (R253). -/
theorem exec_rti_eq (s : State) :
    exec .rti s = .next (s.pullP.transfer .rti
      (word (ramByte s (stackAddr (s.sp + 3))) (ramByte s (stackAddr (s.sp + 2)))) 0) :=
  congrArg (Host.Outcome.next <| account .rti 0 ·) (returnFromException_eq s)

theorem mem_allFlags (f : Flag) : f ∈ allFlags := by cases f <;> decide

theorem changesOnly_pullP (s : State) : ChangesOnly [.s] allFlags s s.pullP :=
  (changesOnly_withReg s (s.sp + 3) (List.mem_singleton.2 rfl)).trans
    (changesOnly_setP fun f hf => absurd (mem_allFlags f) hf)

/-- Settles O41: RTI changes S and P alone and transfers to the word above the byte it pulled P from. -/
theorem returnFromInterrupt : Obligations.ReturnFromInterrupt := fun s =>
  ⟨_, exec_rti_eq s, rfl, rfl, (changesOnly_pullP s).transferEffect⟩

end Sys2Proof.Machine
end

section
/-! PROOFS. Taking an exception, by BRK or by an interrupt, and returning from it (R254, R333, R337, R338, R342, R343). -/

namespace Sys2Proof.Machine

/-! ### BRK and the interrupt entries -/

/-- Taking an exception stacks its frame and touches S and the flags that `mask` sets; then PC is the word at the vector (R342). -/
theorem takeException_effect (s : State) (ret : Word) (copy : Byte) {mask : Byte} {flags : List Flag} {vector : Word}
    (hmask : ∀ f, getFlag f mask = decide (f ∈ flags)) (hv : 224 ≤ (hi vector).toNat)
    (hv1 : 224 ≤ (hi (vector + 1)).toNat) :
    ∃ u, takeException s ret copy mask vector = { u with pc := word (peek s (vector + 1)) (peek s vector) } ∧
      Untouched [.s] flags s u ∧
      Stacked [(stackAddr s.sp, hi ret), (stackAddr (s.sp - 1), lo ret), (stackAddr (s.sp - 2), copy)] s u ∧
      u.sp = s.sp - 3 ∧ (∀ f, f ∈ flags → getFlag f u.p = true) ∧ u.report = s.report := by
  obtain ⟨m, heq, hst⟩ := takeException_eq s ret copy mask hv hv1
  rw [heq] at hst
  have hset : ∀ f, f ∈ flags → getFlag f (s.p ||| mask) = true := fun f hf => by
    rw [getFlag_or, hmask, decide_eq_true hf, Bool.or_true]
  have hkept : ∀ f, f ∉ flags → getFlag f (s.p ||| mask) = getFlag f s.p := fun f hf => by
    rw [getFlag_or, hmask, decide_eq_false hf, Bool.or_false]
  refine ⟨{ s with ram := m, sp := s.sp - 3, p := s.p ||| mask }, heq,
    ⟨fun r hr => ?_, hkept, rfl, rfl, rfl, rfl, rfl, rfl, rfl⟩, hst.congr rfl rfl rfl rfl rfl rfl rfl rfl, rfl, hset, rfl⟩
  cases r
  case s => exact absurd (List.mem_singleton.2 rfl) hr
  all_goals rfl

/-- BRK and NMI set B and I (R254, R338). -/
theorem getFlag_bi_mask (f : Flag) : getFlag f (Flag.b.mask ||| Flag.i.mask) = decide (f ∈ [Flag.b, .i]) := by
  cases f <;> rfl

/-- IRQ sets I (R337). -/
theorem getFlag_i_mask (f : Flag) : getFlag f Flag.i.mask = decide (f ∈ [Flag.i]) := by
  cases f <;> rfl

/-- Settles O42: BRK takes the exception with PC + 2 as its return address and counts its base cycles. -/
theorem breakTakesTheTrap : Obligations.BreakTakesTheTrap := by
  intro s
  obtain ⟨u, heq, hu, hst, hsp, hset, -⟩ := takeException_effect s (s.pc + 2) (pushedByProgram s.p) (vector := vectorIrq)
    getFlag_bi_mask (by decide) (by decide)
  exact ⟨_, congrArg (Host.Outcome.next <| account .brk 0 ·) heq, hsp, hset .b (by simp), hset .i (by simp),
    transfer_effect hu hst⟩

/-- An interrupt takes the exception with PC as its return address, and counts 7 cycles (R342, R350). -/
theorem takeException_enters (s : State) (copy : Byte) {mask : Byte} {flags : List Flag} {vector : Word}
    (hmask : ∀ f, getFlag f mask = decide (f ∈ flags)) (hv : 224 ≤ (hi vector).toNat)
    (hv1 : 224 ≤ (hi (vector + 1)).toNat) {t : State} (ht : t = takeException s s.pc copy mask vector) :
    Enters vector copy flags s { t with cycles := t.cycles + 7 } := by
  obtain ⟨u, heq, hu, hst, hsp, hset, hreport⟩ := takeException_effect s s.pc copy hmask hv hv1
  rw [ht, heq]
  refine ⟨hst.congr rfl rfl rfl rfl rfl rfl rfl rfl, hsp, hset, rfl, ⟨fun r hr => ?_, hu.flags, hu.setup, hu.halted, hu.env,
    hu.epoch⟩, congrArg (· + 7) hu.cycles, hreport, hu.draws⟩
  rw [← hu.regs r hr]
  cases r <;> rfl

/-- An IRQ that is taken (R337). -/
theorem irqRequest_enters {s : State} (hrun : s.halted = false) (hclear : getFlag .i s.p = false) :
    Enters 0xFFFE ((s.p &&& 0xEF) ||| 0x20) [.i] s (irqRequest s) := by
  rw [irqRequest, hrun, hclear]
  exact takeException_enters s (pushedByIrq s.p) getFlag_i_mask (by decide) (by decide) rfl

/-- An NMI that is taken (R338, D9). -/
theorem nmiRequest_enters {s : State} (hrun : s.halted = false) :
    Enters 0xFFFA (s.p ||| 0x20) [.b, .i] s (nmiRequest s) := by
  rw [nmiRequest, hrun]
  exact takeException_enters s (pushedByNmi s.p) getFlag_bi_mask (by decide) (by decide) rfl

/-! ### Returning from an interrupt -/

/-- RTI right after an interrupt entry pulls the frame that the entry stacked (R343). -/
theorem Enters.exec_rti {vector : Word} {p : Byte} {flags : List Flag} {s t : State}
    (h : Enters vector (p ||| 0x20) flags s t) :
    ∃ u, exec .rti t = .next u ∧ u.pc = s.pc ∧ u.p = p ||| 0x20 ∧ ∀ r, u.reg r = s.reg r := by
  obtain ⟨u, hrti, husp, hup, hu⟩ := returnFromInterrupt t
  have hhi : t.sp + 3 = s.sp := by rw [h.sp, BitVec.sub_add_cancel]
  have hlo : t.sp + 2 = s.sp - 1 := by rw [h.sp]; bv_omega
  have hp : t.sp + 1 = s.sp - 2 := by rw [h.sp]; bv_omega
  refine ⟨u, hrti, ?_, ?_, reg_eq_of_sp (fun r hr => ?_) (husp.trans hhi)⟩
  · rw [hu.pc, hhi, hlo, h.stacked.pushed (stackAddr s.sp, hi s.pc) (by simp),
      h.stacked.pushed (stackAddr (s.sp - 1), lo s.pc) (by simp), word_hi_lo]
  · rw [hup, hp, h.stacked.pushed (stackAddr (s.sp - 2), p ||| 0x20) (by simp), BitVec.or_assoc, BitVec.or_self]
  · rw [hu.kept.regs r hr, h.kept.regs r hr]

/-- Settles O55: each entry stacks its frame, and RTI pulls it. -/
theorem interruptThenRti : Obligations.InterruptThenRti := fun _ hrun =>
  ⟨fun hclear => (irqRequest_enters hrun hclear).exec_rti, (nmiRequest_enters hrun).exec_rti⟩

end Sys2Proof.Machine
end

section
/-! PROOFS. The conditional branches (R255 to R263). -/

namespace Sys2Proof.Machine

/-- The target of a branch in integers (R255). -/
theorem toNat_branchTarget (pc : Word) (off : Byte) :
    ((branchTarget pc off).toNat : Int) = ((pc.toNat : Int) + 2 + off.toInt) % 65536 := by
  have hoff : (sext16 off).toInt = off.toInt := BitVec.toInt_signExtend_of_le (by decide)
  have hcond := (sext16 off).toInt_eq_toNat_cond
  rw [hoff] at hcond
  have htwo : (2 : Word).toNat = 2 := rfl
  rw [hcond, branchTarget, BitVec.toNat_add, BitVec.toNat_add, htwo]
  omega

/-- The page of a branch's target is compared with that of the next instruction (R255, D15). -/
theorem branchExtra_eq (pc : Word) (off : Byte) :
    branchExtra pc off =
      if (hi (branchTarget pc off)).toNat = (pc.toNat + 2) % 65536 / 256 then 1 else 2 := by
  have hpage : (hi (pc + 2)).toNat = (pc.toNat + 2) % 65536 / 256 := by rw [toNat_hi, BitVec.toNat_add]; rfl
  simp only [branchExtra, ← hpage, BitVec.toNat_inj, bne_iff_ne, ne_eq, ite_not]

/-- An instruction branches on a flag when it has the branches' common rule, with that flag's value as its condition. -/
theorem branchesOn {br : Byte → Instr} {f : Flag} {b : Bool} (cond : State → Bool)
    (hexec : ∀ off s, exec (br off) s = branch (br off) (cond s) s) (hop : ∀ off, (br off).operand = .rel off)
    (hcond : ∀ s, cond s = true ↔ getFlag f s.p = b) : BranchesOn br f b := by
  intro off s
  have hres : resolvedState (br off) s = s := by rw [resolvedState, hop]; rfl
  have heff : ∀ target extra, TransferEffect (br off) target extra [] [] [] s (s.transfer (br off) target extra) :=
    fun _ _ => ChangesOnly.transferEffect (by rw [hres]; exact .refl s)
  have hoff : offsetOf (br off).operand = off := by rw [hop]; rfl
  rw [hexec, branch, hoff]
  refine ⟨fun hnot => ?_, fun htaken => ?_⟩
  · rw [if_neg (mt (hcond s).1 hnot)]
    exact ⟨_, rfl, heff _ 0⟩
  · rw [if_pos ((hcond s).2 htaken), branchExtra_eq]
    exact ⟨_, rfl, toNat_branchTarget s.pc off, heff _ _⟩

/-- Settles O43: the eight are the branches' common rule, each with its flag. -/
theorem conditionalBranches : Obligations.ConditionalBranches :=
  ⟨branchesOn _ (fun _ _ => rfl) (fun _ => rfl) fun _ => beq_iff_eq,
    branchesOn _ (fun _ _ => rfl) (fun _ => rfl) fun _ => .rfl,
    branchesOn _ (fun _ _ => rfl) (fun _ => rfl) fun _ => beq_iff_eq,
    branchesOn _ (fun _ _ => rfl) (fun _ => rfl) fun _ => .rfl,
    branchesOn _ (fun _ _ => rfl) (fun _ => rfl) fun _ => beq_iff_eq,
    branchesOn _ (fun _ _ => rfl) (fun _ => rfl) fun _ => .rfl,
    branchesOn _ (fun _ _ => rfl) (fun _ => rfl) fun _ => beq_iff_eq,
    branchesOn _ (fun _ _ => rfl) (fun _ => rfl) fun _ => .rfl⟩

end Sys2Proof.Machine
end

section
/-! PROOFS. Every instruction and every transition answers a next state (R331, R332), and none changes the setup (R7, R42). -/

namespace Sys2Proof.Machine

/-! ### Completion -/

/-- Every instruction answers a next state, for its mnemonic's operation keeps a frame. -/
theorem exec_completes (i : Instr) (s : State) : ∃ t, exec i s = .next t := by
  obtain ⟨t, ht, -⟩ := meaning_framed i s i.mnemonic acc_writes_a
  exact ⟨t, (exec_eq_meaning i s).trans ht⟩

/-- A running core runs the instruction it fetched, unless the step is held and the instruction is no JAM (R110, R341, R353). -/
theorem stepRequest_of_running {s : State} (h : s.halted = false) (hold : Bool) :
    stepRequest hold s =
      if hold && (fetch s).1.mnemonic != .jam then .next (heldStep (fetch s).1 (fetch s).2)
      else exec (fetch s).1 (fetch s).2 := by
  simp only [stepRequest, h, Bool.false_eq_true, if_false]

theorem stepRequest_completes (hold : Bool) (s : State) : ∃ t, stepRequest hold s = .next t := by
  cases hhalted : s.halted
  · rw [stepRequest_of_running hhalted]
    split
    · exact ⟨_, rfl⟩
    · exact exec_completes _ _
  · exact ⟨_, stepRequest_of_halted hhalted hold⟩

/-- Settles O6: a step is a step request or another turn, and a step request is the halt report, a held step or an instruction. -/
theorem everythingCompletes : Obligations.EverythingCompletes := by
  refine ⟨exec_completes, fun s => ?_⟩
  rcases henv : s.env with _ | ⟨u, rest⟩
  · rw [step_of_env_nil henv]
    exact stepRequest_completes false s
  · cases u with
    | instr hold =>
      rw [step_of_env_instr henv]
      exact stepRequest_completes hold _
    | _ => exact ⟨_, step_of_env_turn henv (by simp)⟩

/-! ### The setup -/

@[simp] theorem takeException_setup (s : State) (ret : Word) (copy flags : Byte) (vector : Word) :
    (takeException s ret copy flags vector).setup = s.setup := by
  simp [takeException, pushWord]

theorem irqRequest_setup (s : State) : (irqRequest s).setup = s.setup := by
  unfold irqRequest
  split
  · rfl
  · exact takeException_setup _ _ _ _ _

theorem nmiRequest_setup (s : State) : (nmiRequest s).setup = s.setup := by
  unfold nmiRequest
  split
  · rfl
  · exact takeException_setup _ _ _ _ _

theorem resetEvent_setup (s : State) : (resetEvent s).setup = s.setup := afterReadWord_setup _ _

theorem togetherEvent_setup (reset nmi irq : Bool) (s : State) : (togetherEvent reset nmi irq s).setup = s.setup := by
  have hnmi : (if nmi then nmiRequest s else s).setup = s.setup := by
    cases nmi
    · rfl
    · exact nmiRequest_setup s
  cases reset
  · cases irq
    · exact hnmi
    · exact (irqRequest_setup _).trans hnmi
  · exact resetEvent_setup s

/-- No turn of the environment changes the setup: it is fixed before the first reset (R390). -/
theorem environmentTurn_setup (u : Turn) (s : State) : (environmentTurn u s).setup = s.setup := by
  cases u with
  | instr hold => rfl
  | irq => exact irqRequest_setup s
  | nmi => exact nmiRequest_setup s
  | reset => exact resetEvent_setup s
  | together reset nmi irq => exact togetherEvent_setup reset nmi irq s
  | lines game exrom => rfl
  | mappedRead a => exact afterRead_setup s a
  | mappedWrite a v => exact busWrite_setup s a v
  | rawWrite a v => rfl
  | setReg w => cases w <;> rfl
  | loadProgram file pointers => exact (ramOnly_loadProgram s file pointers).setup

theorem stepRequest_setup {hold : Bool} {s t : State} (h : stepRequest hold s = .next t) : t.setup = s.setup := by
  have hfetch : (fetch s).2.setup = s.setup := (frame_fetch (m := .nop) s).setup
  cases hhalted : s.halted
  · obtain rfl | hexec := stepRequest_cases h hhalted
    · exact (resolve_setup _ _).trans hfetch
    · exact (exec_frame hexec).setup.trans hfetch
  · rw [stepRequest_of_halted hhalted] at h
    cases h
    rfl

/-- Settles O10: neither the frame of an instruction nor a turn of the environment has the setup among what it may change. -/
theorem setupNeverChanges : Obligations.SetupNeverChanges := by
  intro s t h
  obtain ⟨-, hreq⟩ | ⟨hold, rest, -, hreq⟩ | ⟨u, rest, -, -, rfl⟩ := step_cases h
  · exact stepRequest_setup hreq
  · exact stepRequest_setup (s := { s with env := rest }) hreq
  · exact environmentTurn_setup u _

/-! ### Sample words -/

/-- Settles O4: each word is the encoding of the instruction it stands for, and the decoder gives an encoding's instruction back. -/
theorem sampleWordsDecode : Obligations.SampleWordsDecode :=
  ⟨decodeOfEncode (.ldaImm 0x80) [], decodeOfEncode (.staAbs 0x0200) [], decodeOfEncode .txs [], decodeOfEncode .pha [],
    decodeOfEncode (.adcImm 0x01) [], decodeOfEncode (.bitZp 0x10) [], decodeOfEncode .aslAcc [],
    decodeOfEncode (.jmpInd 0x12FF) [], decodeOfEncode (.beq 0x05) [], decodeOfEncode .sei [],
    decodeOfEncode (.laxAby 0x12FF) [], decodeOfEncode (.sbcImmEB 0x01) [], decodeOfEncode .jam02 []⟩

end Sys2Proof.Machine
end

section
/-! PROOFS. The flag instructions and the NOPs (R280 to R287, R304). -/

namespace Sys2Proof.Machine

/-- Writing one flag writes no other (R25). -/
theorem changesOnly_putFlag (s : State) {f : Flag} (b : Bool) {regs : List Reg} {flags : List Flag} (h : f ∈ flags) :
    ChangesOnly regs flags s { s with p := putFlag f b s.p } :=
  changesOnly_setP fun g hg => by
    have hne : g ≠ f := fun e => hg (e ▸ h)
    rw [getFlag_putFlag, if_neg hne]

/-- An implied instruction that writes one flag. -/
theorem impliedOp_putFlag (i : Instr) (f : Flag) (b : Bool) (s : State) :
    ∃ t, impliedOp i (fun u => { u with p := putFlag f b u.p }) s = .next t ∧ getFlag f t.p = b ∧
      ImpliedEffect i [] [f] s t :=
  ⟨_, rfl, by simp, (changesOnly_putFlag s b (List.mem_singleton.2 rfl)).impliedEffect i⟩

/-- A NOP without an operand makes no access (R287). -/
theorem opNop_of_imp {i : Instr} (h : i.operand = .imp) (s : State) : opNop i s = impliedOp i id s := by
  simp [opNop, h]

/-- A NOP with an operand reads it and discards the byte (R304, D31). -/
theorem opNop_of_ne_imp {i : Instr} (h : i.operand ≠ .imp) (s : State) : opNop i s = readOp i (fun _ t => t) s := by
  unfold opNop
  split
  · next himp => exact absurd himp h
  · rfl

/-- Settles O45: a NOP is an implied instruction or one of the read class, with no effect proper. -/
theorem undocumentedNops : Obligations.UndocumentedNops := by
  refine fun i s h => ⟨fun himp => ?_, fun hmem => ?_⟩ <;> rw [exec_of_mnemonic h, meaning]
  · exact ⟨_, opNop_of_imp himp s, (ChangesOnly.refl s).impliedEffect i⟩
  · exact ⟨_, opNop_of_ne_imp hmem s, (ChangesOnly.refl (readState i s)).readEffect⟩

/-- Settles O44: seven implied instructions write one flag each; the documented NOP is the NOP of opcode $EA. -/
theorem flagInstructionsAndNop : Obligations.FlagInstructionsAndNop := by
  refine ⟨?_, fun s => (undocumentedNops .nopImp s rfl).1 rfl⟩
  simp only [List.forall_mem_cons]
  exact ⟨impliedOp_putFlag .clc .c false, impliedOp_putFlag .sec .c true, impliedOp_putFlag .cli .i false,
    impliedOp_putFlag .sei .i true, impliedOp_putFlag .cld .d false, impliedOp_putFlag .sed .d true,
    impliedOp_putFlag .clv .v false, fun _ h => absurd h List.not_mem_nil⟩

end Sys2Proof.Machine
end

section
/-! PROOFS. The undocumented combinations of a shift or count of memory with an accumulator operation, and of an immediate AND
with a shift or compare (R291 to R302). Two ends are said once: A loaded with a carry, and A accumulated (`State.accumulate`). -/

namespace Sys2Proof.Machine

/-! ### Wider frames, and A loaded with a carry -/

/-- A frame holds with more registers and flags listed. -/
theorem ChangesOnly.mono {regs regs' : List Reg} {flags flags' : List Flag} {s u : State}
    (h : ChangesOnly regs flags s u) (hregs : regs ⊆ regs') (hflags : flags ⊆ flags') : ChangesOnly regs' flags' s u :=
  { h with
    regs := fun r hr => h.regs r fun hmem => hr (hregs hmem)
    flags := fun f hf => h.flags f fun hmem => hf (hflags hmem) }

/-- A loaded with SetNZ, and the bit shifted out in C. -/
def State.loadWithCarry (s : State) (v : Byte) (c : Bool) : State := State.load { s with p := putFlag .c c s.p } v .a

theorem nzOf_loadWithCarry (s : State) (v : Byte) (c : Bool) : NZOf v (s.loadWithCarry v c).p := nzOf_putNZ _ _

theorem carry_loadWithCarry (s : State) (v : Byte) (c : Bool) : getFlag .c (s.loadWithCarry v c).p = c := by
  simp [State.loadWithCarry, State.load_p]

theorem changesOnly_loadWithCarry (s : State) (v : Byte) (c : Bool) :
    ChangesOnly [.a] [.n, .z, .c] s (s.loadWithCarry v c) :=
  (changesOnly_putFlag s c (by simp)).trans ((changesOnly_load _ v .a).mono (by simp) (by simp))

/-! ### SLO, RLA, SRE and DCP -/

/-- The undocumented read-modify-writes have memory forms alone (R291 to R294, R297, R298). -/
theorem operand_of_memoryModifier {i : Instr} (h : i.mnemonic ∈ [.slo, .rla, .sre, .rra, .dcp, .isc]) :
    i.operand ≠ .acc ∧ ∀ v, i.operand ≠ .imm v := by
  have hshift : ∀ m ∈ [Mnemonic.slo, .rla, .sre, .rra, .dcp, .isc], m ∉ [Mnemonic.asl, .lsr, .rol, .ror] := by decide
  exact ⟨operand_ne_acc (hshift _ h), modify_not_imm (List.mem_append_right [Mnemonic.asl, .lsr, .rol, .ror, .inc, .dec] h)⟩

/-- A read-modify-write of memory that then loads A with `op` of A and the new operand, the bit shifted out going to C. -/
theorem modifyOp_loadA {i : Instr} (hacc : i.operand ≠ .acc) (himm : ∀ v, i.operand ≠ .imm v) (new : Byte → Byte → Byte)
    (op : Byte → Byte → Byte) (out : Nat) (s : State) :
    ∃ t, modifyOp i new (fun old v u => loadA (op u.a v) { u with p := putFlag .c (old.getLsbD out) u.p }) s = .next t ∧
      t.a = op s.a (new (operandOf i s) s.p) ∧ NZOf t.a t.p ∧ getFlag .c t.p = (operandOf i s).getLsbD out ∧
      ModifyEffect i (new (operandOf i s) s.p) [.a] [.n, .z, .c] s t := by
  have ha : (busWrite (readState i s) (addressOf i s) (new (operandOf i s) s.p)).a = s.a := by simp [readState]
  refine ⟨_, modifyOp_mem hacc himm new _ s, ?_⟩
  rw [ha]
  exact ⟨rfl, nzOf_loadWithCarry _ _ _, carry_loadWithCarry _ _ _, (changesOnly_loadWithCarry _ _ _).modifyEffect⟩

/-- DCP compares A with the decremented operand (R297). -/
theorem opDcp_effect {i : Instr} (hacc : i.operand ≠ .acc) (himm : ∀ v, i.operand ≠ .imm v) (s : State) :
    ∃ t, opDcp i s = .next t ∧ CompareFlags s.a (operandOf i s - 1) t.p ∧
      ModifyEffect i (operandOf i s - 1) [] [.n, .z, .c] s t := by
  refine ⟨_, modifyOp_mem hacc himm _ _ s, ?_, (changesOnly_putCompare _ _ _ []).modifyEffect⟩
  have ha : (busWrite (readState i s) (addressOf i s) (operandOf i s - 1)).a = s.a := by simp [readState]
  rw [← ha]
  exact compareFlags_putCompare _ _ _

/-- Settles O46: three are a shift or rotate that loads A with the new byte combined; DCP is a decrement and a compare. -/
theorem sloRlaSreDcp : Obligations.SloRlaSreDcp := by
  intro i s
  refine ⟨fun h => ?_, fun h => ?_, fun h => ?_, fun h => ?_⟩ <;>
    obtain ⟨hacc, himm⟩ := operand_of_memoryModifier (i := i) (by simp [h]) <;> rw [exec_of_mnemonic h]
  · exact modifyOp_loadA hacc himm (fun v _ => shiftLeft v) (· ||| ·) 7 s
  · obtain ⟨t, ht, ha, hnz, hc, heff⟩ := modifyOp_loadA hacc himm rotateLeft (· &&& ·) 7 s
    rw [rotateLeft_eq_ofNat] at ha heff
    exact ⟨t, ht, ⟨ha, heff⟩, hnz, hc⟩
  · exact modifyOp_loadA hacc himm (fun v _ => shiftRight v) (· ^^^ ·) 0 s
  · exact opDcp_effect hacc himm s

/-! ### RRA and ISC -/

/-- An addition or subtraction overrides a carry written before it. -/
theorem putAlu_putFlag_c (r : AluResult) (b : Bool) (p : Byte) : putAlu r (putFlag .c b p) = putAlu r p :=
  eq_of_getFlag fun f => by
    by_cases hf : f = .c <;> simp [hf]

/-- A read-modify-write of memory that then accumulates the new operand, `alu` being its arithmetic of the old operand, P, A
and the new operand. -/
theorem modifyOp_accumulate {i : Instr} (hacc : i.operand ≠ .acc) (himm : ∀ v, i.operand ≠ .imm v)
    {new : Byte → Byte → Byte} {after : Byte → Byte → State → State} {alu : Byte → Byte → Byte → Byte → AluResult}
    (hafter : ∀ old v u, after old v u = u.accumulate (alu old u.p u.a v)) (s : State) :
    ∃ t, modifyOp i new after s = .next t ∧
      t.a = (alu (operandOf i s) s.p s.a (new (operandOf i s) s.p)).result ∧
      AluFlags (alu (operandOf i s) s.p s.a (new (operandOf i s) s.p)) t.p ∧
      ModifyEffect i (new (operandOf i s) s.p) [.a] [.n, .v, .z, .c] s t := by
  have hp : (busWrite (readState i s) (addressOf i s) (new (operandOf i s) s.p)).p = s.p := by simp [readState]
  have ha : (busWrite (readState i s) (addressOf i s) (new (operandOf i s) s.p)).a = s.a := by simp [readState]
  refine ⟨_, modifyOp_mem hacc himm new _ s, ?_⟩
  rw [hafter, hp, ha]
  exact ⟨rfl, aluFlags_putAlu _ _, (changesOnly_accumulate _ _).modifyEffect⟩

/-- ADC's arithmetic by P.D, with a carry of its own (R205, R294). -/
def addInMode (p a m : Byte) (c : Bool) : AluResult := if getFlag .d p = true then addDecimal a m c else addBinary a m c

theorem addByMode_putFlag_c (p a m : Byte) (c : Bool) : addByMode (putFlag .c c p) a m = addInMode p a m c := by
  simp [addByMode, addInMode]

/-- RRA's end is an accumulation: the carry it writes first goes into the sum and is overridden (R294). -/
theorem adcEffect_putFlag_c (m : Byte) (c : Bool) (s : State) :
    adcEffect m { s with p := putFlag .c c s.p } = s.accumulate (addInMode s.p s.a m c) := by
  rw [adcEffect_eq_accumulate, addByMode_putFlag_c, State.accumulate, putAlu_putFlag_c]
  rfl

/-- Settles O47: both are a read-modify-write that accumulates the new byte, RRA with the bit rotated out as its carry. -/
theorem rraAndIsc : Obligations.RraAndIsc := by
  intro i s
  refine ⟨fun h => ?_, fun h => ?_⟩ <;>
    obtain ⟨hacc, himm⟩ := operand_of_memoryModifier (i := i) (by simp [h]) <;> rw [exec_of_mnemonic h] <;> dsimp only
  · rw [← rotateRight_eq_ofNat]
    exact modifyOp_accumulate (alu := fun old p a m => addInMode p a m (old.getLsbD 0)) hacc himm
      (fun old v u => adcEffect_putFlag_c v (old.getLsbD 0) u) s
  · exact modifyOp_accumulate (new := fun v _ => v + 1) (alu := fun _ p a m => subByMode p a m) hacc himm
      (fun _ v u => sbcEffect_eq_accumulate v u) s

end Sys2Proof.Machine
end

section
/-! PROOFS. SAX, LAX, LAS and the immediate combinations ANC, ALR, ARR, SBX (R295, R296, R299 to R302, R305). -/

namespace Sys2Proof.Machine

/-! ### SAX, LAX and LAS -/

/-- A and X written, with SetNZ: what R296 and R307 do. -/
def State.loadAX (s : State) (v : Byte) : State := (s.withReg v .a).load v .x

theorem changesOnly_loadAX (s : State) (v : Byte) : ChangesOnly [.a, .x] [.n, .z] s (s.loadAX v) :=
  (changesOnly_withReg s v (by simp)).trans ((changesOnly_load _ v .x).mono (by simp) (by simp))

/-- LAX loads A and X with its operand byte (R296). -/
theorem opLax_effect (i : Instr) (s : State) :
    ∃ t, opLax i s = .next t ∧ t.a = operandOf i s ∧ t.x = operandOf i s ∧ NZOf (operandOf i s) t.p ∧
      ReadEffect i [.a, .x] [.n, .z] s t :=
  ⟨_, readOp_eq i _ s, rfl, rfl, nzOf_putNZ _ _, (changesOnly_loadAX _ _).readEffect⟩

theorem changesOnly_loadAXS (v : Byte) (s : State) : ChangesOnly [.a, .x, .s] [.n, .z] s (loadAXS v s) :=
  (changesOnly_putNZ s v _).trans ((changesOnly_withReg _ v (r := .a) (by simp)).trans
    ((changesOnly_withReg _ v (r := .x) (by simp)).trans (changesOnly_withReg _ v (r := .s) (by simp))))

/-- LAS loads A, X and S with its operand byte and S (R305). -/
theorem opLas_effect (i : Instr) (s : State) :
    ∃ t, opLas i s = .next t ∧ t.a = operandOf i s &&& s.sp ∧ t.x = t.a ∧ t.sp = t.a ∧ NZOf t.a t.p ∧
      ReadEffect i [.a, .x, .s] [.n, .z] s t := by
  have hsp : (readState i s).sp = s.sp := by simp [readState]
  refine ⟨_, readOp_eq i _ s, ?_⟩
  rw [hsp]
  exact ⟨rfl, rfl, rfl, nzOf_putNZ _ _, (changesOnly_loadAXS _ _).readEffect⟩

/-- Settles O48: SAX is the write class, LAX and LAS are the read class with their registers loaded. -/
theorem saxLaxLas : Obligations.SaxLaxLas := by
  refine fun i s => ⟨fun h => ?_, fun h => ?_, fun h => ?_⟩ <;> rw [exec_of_mnemonic h]
  · exact write_effect i (fun u => u.a &&& u.x) s (by simp [resolvedState])
  · exact opLax_effect i s
  · exact opLas_effect i s

/-! ### ANC, ALR and SBX -/

/-- An instruction of the read class that loads A with `new` of A AND M, a bit `out` of which goes to C. -/
theorem readOp_loadMasked (i : Instr) (s : State) (new : Byte → Byte) (out : Nat) :
    ∃ t, readOp i (fun m u => loadA (new (u.a &&& m)) { u with p := putFlag .c ((u.a &&& m).getLsbD out) u.p }) s =
        .next t ∧
      t.a = new (s.a &&& operandOf i s) ∧ NZOf t.a t.p ∧ getFlag .c t.p = (s.a &&& operandOf i s).getLsbD out ∧
      ReadEffect i [.a] [.n, .z, .c] s t := by
  have ha : (readState i s).a = s.a := by simp [readState]
  refine ⟨_, readOp_eq i _ s, ?_⟩
  rw [ha]
  exact ⟨rfl, nzOf_loadWithCarry _ _ _, carry_loadWithCarry _ _ _, (changesOnly_loadWithCarry _ _ _).readEffect⟩

theorem changesOnly_sbx (s : State) (r m : Byte) :
    ChangesOnly [.x] [.n, .z, .c] s { s with x := r - m, p := putCompare r m s.p } :=
  (changesOnly_putCompare s r m [.x]).trans (changesOnly_withReg _ (r - m) (List.mem_singleton.2 rfl : Reg.x ∈ [Reg.x]))

/-- SBX subtracts from A AND X with the flags of a compare (R302). -/
theorem opSbx_effect (i : Instr) (s : State) :
    ∃ t, opSbx i s = .next t ∧ t.x = (s.a &&& s.x) - operandOf i s ∧
      CompareFlags (s.a &&& s.x) (operandOf i s) t.p ∧ ReadEffect i [.x] [.n, .z, .c] s t := by
  have ha : (readState i s).a = s.a := by simp [readState]
  have hx : (readState i s).x = s.x := by simp [readState]
  refine ⟨_, readOp_eq i _ s, ?_, ?_, (changesOnly_sbx _ _ _).readEffect⟩ <;> rw [← ha, ← hx]
  · rfl
  · exact compareFlags_putCompare _ _ _

/-! ### ARR -/

/-- ARR with P.D = 0 (R301). -/
theorem arrBinary_spec (t p : Byte) :
    (arrBinary t p).1 = rotateRight t p ∧ NZOf (rotateRight t p) (arrBinary t p).2 ∧
      getFlag .c (arrBinary t p).2 = (rotateRight t p).getLsbD 6 ∧
      getFlag .v (arrBinary t p).2 = ((rotateRight t p).getLsbD 6 ^^ (rotateRight t p).getLsbD 5) := by
  simp [arrBinary, NZOf]

/-- A byte made of the tens digit of one byte and the units digit of another. -/
theorem toNat_digits (x y : Byte) : ((x &&& 0xF0) ||| (y &&& 0x0F)).toNat = x.toNat / 16 * 16 + y.toNat % 16 := by
  have hlow : y.toNat % 16 < 2 ^ 4 := Nat.mod_lt _ (by decide)
  rw [BitVec.toNat_or, toNat_and_f0, toNat_and_0f, ← Nat.two_pow_add_eq_or_of_lt hlow, Nat.mul_comm]

/-- Masking with one bit leaves its value in place. -/
theorem toNat_and_twoPow (x : Byte) {k : Nat} (hk : k < 8) :
    (x &&& BitVec.twoPow 8 k).toNat = x.toNat / 2 ^ k % 2 * 2 ^ k := by
  rw [BitVec.toNat_and, BitVec.toNat_twoPow_of_lt hk, Nat.and_two_pow, Nat.toNat_testBit]

/-- The units digit of ARR's masked operand asks for a correction (R301). -/
theorem arr_fixLow_iff (t : Byte) :
    5 < (t &&& 0x0F).toNat + (t &&& 0x01).toNat ↔ 5 < t.toNat % 16 + t.toNat % 16 % 2 := by
  have hbit : (t &&& 0x01).toNat = t.toNat / 2 ^ 0 % 2 * 2 ^ 0 := toNat_and_twoPow t (k := 0) (by decide)
  rw [toNat_and_0f, hbit]
  omega

/-- Its tens digit does (R301). -/
theorem arr_fixHigh_iff (t : Byte) :
    0x50 < (t &&& 0xF0).toNat + (t &&& 0x10).toNat ↔ 0x50 < t.toNat / 16 * 16 + t.toNat / 16 % 2 * 16 := by
  have hbit : (t &&& 0x10).toNat = t.toNat / 2 ^ 4 % 2 * 2 ^ 4 := toNat_and_twoPow t (k := 4) (by decide)
  rw [toNat_and_f0, hbit]
  omega

/-- ARR with P.D = 1: the flags (R301). -/
theorem arrDecimal_flags (t p : Byte) :
    getFlag .n (arrDecimal t p).2 = getFlag .c p ∧ getFlag .z (arrDecimal t p).2 = (rotateRight t p == 0) ∧
      getFlag .v (arrDecimal t p).2 = (t.getLsbD 6 ^^ (rotateRight t p).getLsbD 6) ∧
      getFlag .c (arrDecimal t p).2 = decide (0x50 < t.toNat / 16 * 16 + t.toNat / 16 % 2 * 16) := by
  simp only [arrDecimal, arr_fixHigh_iff]
  split <;> simp [*]

/-- ARR with P.D = 1: the units digit corrected, then the tens digit (R301). -/
theorem toNat_arrDecimal (t p : Byte) :
    let r1 := if 5 < t.toNat % 16 + t.toNat % 16 % 2 then
      (rotateRight t p).toNat / 16 * 16 + ((rotateRight t p).toNat + 6) % 16 else (rotateRight t p).toNat
    (arrDecimal t p).1.toNat =
      if 0x50 < t.toNat / 16 * 16 + t.toNat / 16 % 2 * 16 then (r1 + 0x60) % 256 else r1 := by
  have hsix : (rotateRight t p + 6).toNat % 16 = ((rotateRight t p).toNat + 6) % 16 := by
    rw [BitVec.toNat_add]
    exact Nat.mod_mod_of_dvd _ (by decide)
  have hsixty : ∀ r : Byte, (r + 0x60).toNat = (r.toNat + 0x60) % 256 := fun r => BitVec.toNat_add r 0x60
  simp only [arrDecimal, arr_fixLow_iff, arr_fixHigh_iff, apply_ite Prod.fst, apply_ite BitVec.toNat, toNat_digits, hsix,
    hsixty]

theorem arrByMode_binary {p : Byte} (h : getFlag .d p = false) (t : Byte) : arrByMode t p = arrBinary t p := by
  simp [arrByMode, h]

theorem arrByMode_decimal {p : Byte} (h : getFlag .d p = true) (t : Byte) : arrByMode t p = arrDecimal t p := by
  simp [arrByMode, h]

/-- ARR writes A and N, V, Z, C alone (R301). -/
theorem changesOnly_arr (s : State) (t : Byte) :
    ChangesOnly [.a] [.n, .v, .z, .c] s { s with a := (arrByMode t s.p).1, p := (arrByMode t s.p).2 } :=
  (changesOnly_withReg s (arrByMode t s.p).1 (List.mem_singleton.2 rfl : Reg.a ∈ [Reg.a])).trans
    (changesOnly_setP fun f hf => by
      obtain ⟨hn, hv, hz, hc⟩ : f ≠ .n ∧ f ≠ .v ∧ f ≠ .z ∧ f ≠ .c := by simpa using hf
      exact getFlag_arrByMode f t s.p hn hv hz hc)

/-- ARR is of the read class, with A and P from its masked operand (R301). -/
theorem opArr_effect (i : Instr) (s : State) :
    ∃ t, opArr i s = .next t ∧ t.a = (arrByMode (s.a &&& operandOf i s) s.p).1 ∧
      t.p = (arrByMode (s.a &&& operandOf i s) s.p).2 ∧ ReadEffect i [.a] [.n, .v, .z, .c] s t := by
  have ha : (readState i s).a = s.a := by simp [readState]
  have hp : (readState i s).p = s.p := by simp [readState]
  refine ⟨_, readOp_eq i _ s, ?_, ?_, (changesOnly_arr _ _).readEffect⟩ <;> rw [← ha, ← hp] <;> rfl

/-- Settles O49: ANC and ALR load A with the masked operand, ARR rotates it by P.D's mode, SBX subtracts. -/
theorem ancAlrArrSbx : Obligations.AncAlrArrSbx := by
  refine fun i s => ⟨fun h => ?_, fun h => ?_, fun h => ?_, fun h => ?_⟩ <;> rw [exec_of_mnemonic h]
  · obtain ⟨t, ht, (ha : t.a = s.a &&& operandOf i s), hnz, hc, heff⟩ := readOp_loadMasked i s id 7
    exact ⟨t, ht, ha, ha ▸ hnz, hc, heff⟩
  · exact readOp_loadMasked i s shiftRight 0
  · obtain ⟨t, ht, ha, hp, heff⟩ := opArr_effect i s
    refine ⟨t, ht, heff, ?_⟩
    rw [ha, hp, ← rotateRight_eq_ofNat]
    refine ⟨fun hd => ?_, fun hd => ?_⟩
    · rw [arrByMode_binary hd]
      exact arrBinary_spec _ _
    · rw [arrByMode_decimal hd]
      obtain ⟨hn, hz, hv, hc⟩ := arrDecimal_flags (s.a &&& operandOf i s) s.p
      exact ⟨hn, hz, hv, hc, toNat_arrDecimal _ _⟩
  · exact opSbx_effect i s

end Sys2Proof.Machine
end

section
/-! PROOFS. The unstable opcodes, which hold for every value that is drawn (R306 to R311, U5), and JAM (R312, R331). -/

namespace Sys2Proof.Machine

/-! ### ANE and LXA -/

/-- ANE and LXA have an immediate form alone (R306, R307). -/
theorem formsOf_magic : ∀ m ∈ [Mnemonic.ane, .lxa], ∀ f ∈ formsOf m, f.tag = .imm := by decide

/-- An operand with the immediate tag is an immediate (R113). -/
theorem exists_imm_of_tag {o : Operand} (h : tagOf o = .imm) : ∃ v, o = .imm v := by
  cases o with
  | imm v => exact ⟨v, rfl⟩
  | _ => cases h

/-- An immediate was read by the fetch, so the read class makes no access and crosses no page (R143). -/
theorem readOp_of_imm {i : Instr} {v : Byte} (h : i.operand = .imm v) (f : Byte → State → State) (s : State) :
    readOp i f s = .next (retire i false (f (operandOf i s) s)) := by
  have hcross : crosses i s = false := by rw [crosses, h]; rfl
  have hread : readState i s = s := by rw [readState, h]; rfl
  rw [readOp_eq, hcross, hread]

theorem Kept.drawn {regs : List Reg} {flags : List Flag} {s t : State} (h : Kept regs flags s t) :
    Kept regs flags s (drawn t) :=
  { h with regs := fun r hr => (by cases r <;> rfl : (Machine.drawn t).reg r = t.reg r).trans (h.regs r hr) }

theorem retire_drawn (i : Instr) (c : Bool) (u : State) : retire i c (drawn u) = drawn (retire i c u) := rfl

theorem Retired.drawn {i : Instr} {c : Bool} {s t : State} (h : Retired i c s t) : Retired i c s (drawn t) :=
  ⟨h.pc, h.cost⟩

/-- Drawing a free value changes the draw count alone (R290). -/
theorem ImpliedEffect.drawn {i : Instr} {regs : List Reg} {flags : List Flag} {s t : State}
    (h : ImpliedEffect i regs flags s t) :
    Encoded i ∧ Kept regs flags s (drawn t) ∧ MemoryKept s (drawn t) ∧ (drawn t).portLog = s.portLog ∧
      (drawn t).draws = s.draws + 1 ∧ Retired i false s (drawn t) :=
  ⟨h.encoded, h.kept.drawn, ⟨h.memory.latch, h.memory.bytes⟩, h.portLog, congrArg (· + 1) h.draws, h.retired.drawn⟩

/-- ANE loads A with the magic formula's value (R306). -/
theorem opAne_effect {i : Instr} {v : Byte} (h : i.operand = .imm v) (s : State) :
    ∃ t, opAne i s = .next (drawn t) ∧ t.a = (s.a ||| Config.aneMagic s.draws) &&& s.x &&& operandOf i s ∧
      NZOf t.a t.p ∧ ImpliedEffect i [.a] [.n, .z] s t :=
  ⟨retire i false (s.load ((s.a ||| Config.aneMagic s.draws) &&& s.x &&& operandOf i s) .a), readOp_of_imm h _ s, rfl,
    nzOf_putNZ _ _, (changesOnly_load s _ .a).impliedEffect i⟩

/-- LXA loads A and X with the magic formula's value (R307). -/
theorem opLxa_effect {i : Instr} {v : Byte} (h : i.operand = .imm v) (s : State) :
    ∃ t, opLxa i s = .next (drawn t) ∧ t.a = (s.a ||| Config.lxaMagic s.draws) &&& operandOf i s ∧ t.x = t.a ∧
      NZOf t.a t.p ∧ ImpliedEffect i [.a, .x] [.n, .z] s t :=
  ⟨retire i false (s.loadAX ((s.a ||| Config.lxaMagic s.draws) &&& operandOf i s)), readOp_of_imm h _ s, rfl, rfl,
    nzOf_putNZ _ _, (changesOnly_loadAX s _).impliedEffect i⟩

/-- Settles O50: both mask what the magic byte gives with an immediate; then the draw is counted. -/
theorem aneAndLxa : Obligations.AneAndLxa := by
  intro i s
  have hzero : ∀ {x m r : Byte}, r = x &&& m → m = 0 → r = 0 := fun hr hm => by rw [hr, hm]; exact BitVec.and_zero
  refine ⟨fun h => ?_, fun h => ?_⟩ <;>
    obtain ⟨v, himm⟩ := exists_imm_of_tag (formsOf_magic _ (by simp [h]) (formOf i) (encoded i)) <;>
    rw [exec_of_mnemonic h]
  · obtain ⟨t, ht, ha, hnz, heff⟩ := opAne_effect himm s
    exact ⟨_, ht, ha, hzero ha, hnz, heff.drawn⟩
  · obtain ⟨t, ht, ha, hx, hnz, heff⟩ := opLxa_effect himm s
    exact ⟨_, ht, ha, hzero ha, hx, hnz, heff.drawn⟩

/-! ### The unstable stores -/

/-- No Encoding line of an unstable store carries a `+` (R308). -/
theorem formsOf_unstable_plus : ∀ m ∈ unstableStores, ∀ f ∈ formsOf m, f.plus = false := by decide

/-- An unstable store resolves from a state whose S may have been written first, as TAS does; the resolver does not look at
S (R140, R311). -/
theorem unstableStore_withSp (i : Instr) (mask : State → Byte) (s : State) (v : Byte) :
    unstableStore i mask { s with sp := v } =
      .next (drawn (retire i (crosses i s) (busWrite ((resolvedState i s).withReg v .s)
        (unstableAddr (resolve i.operand s)) (unstableValue (resolve i.operand s) (mask { s with sp := v }))))) := by
  have haddr : ∀ r : Resolved, unstableAddr { r with state := r.state.withReg v .s } = unstableAddr r := fun _ => rfl
  have hvalue : ∀ (r : Resolved) (b : Byte),
      unstableValue { r with state := r.state.withReg v .s } b = unstableValue r b := fun _ _ => rfl
  rw [unstableStore, resolve_withSp, ← haddr, ← hvalue, ← retire_drawn]
  rfl

section
variable {i : Instr} {s : State}

/-- Without a page cross an unstable store writes at EA (R308, log 6). -/
theorem unstableAddr_of_not_crosses (h : crosses i s = false) : unstableAddr (resolve i.operand s) = addressOf i s :=
  if_neg (Bool.eq_false_iff.1 h)

/-- Without a page cross it writes its register part masked by a free byte (R308, log 6). -/
theorem unstableValue_of_not_crosses (h : crosses i s = false) (mask : Byte) :
    unstableValue (resolve i.operand s) mask =
      mask &&& Config.unstableHigh s.draws (hi (resolve i.operand s).base + 1) := by
  rw [← resolve_draws i.operand s]
  exact if_neg (Bool.eq_false_iff.1 h)

/-- With a page cross it writes at a free page (log 7). -/
theorem unstableAddr_of_crosses (h : crosses i s = true) :
    unstableAddr (resolve i.operand s) = word (Config.crossedHigh s.draws) (lo (addressOf i s)) := by
  rw [← resolve_draws i.operand s]
  exact if_pos h

/-- With a page cross it writes a free byte (log 7). -/
theorem unstableValue_of_crosses (h : crosses i s = true) (mask : Byte) :
    unstableValue (resolve i.operand s) mask = Config.crossedValue s.draws := by
  rw [← resolve_draws i.operand s]
  exact if_pos h

end

/-- A store does not look at S. -/
theorem Stored.of_withSp {ea : Word} {b v : Byte} {s t : State} (h : Stored ea b (s.withReg v .s) t) : Stored ea b s t :=
  ⟨h.elsewhere, h.toRam, h.toPort, h.latch⟩

/-- What was stored is not changed by the end of the instruction. -/
theorem Stored.drawn_retire {ea : Word} {b : Byte} {s u : State} {i : Instr} {c : Bool} (h : Stored ea b s u) :
    Stored ea b s (drawn (retire i c u)) := h.congr rfl rfl rfl rfl

/-- A store after S was written touches no register but S, and S only when it is listed. -/
theorem untouched_unstableWrite (i : Instr) (s : State) {v : Byte} {regs : List Reg} (hv : .s ∉ regs → v = s.sp) (ea : Word)
    (b : Byte) : Untouched regs [] s (busWrite ((resolvedState i s).withReg v .s) ea b) := by
  constructor
  case regs =>
    intro r hr
    cases r
    case s => exact (busWrite_sp _ _ _).trans (hv hr)
    all_goals simp [State.reg, State.withReg, resolvedState]
  all_goals simp [State.withReg, resolvedState]

/-- A mnemonic is an unstable store when it is the common rule of the four, S written first where it is listed. -/
theorem storesUnstable {m : Mnemonic} {mask mask' sp : State → Byte} {regs : List Reg} (hm : m ∈ unstableStores)
    (hop : ∀ i s, meaning m i s = unstableStore i mask' { s with sp := sp s })
    (hmask : ∀ s, mask' { s with sp := sp s } = mask s) (hsp : .s ∉ regs → ∀ s, sp s = s.sp) :
    StoresUnstable m mask regs := by
  intro i s hi
  have hplus : i.row.penalty = false := formsOf_unstable_plus _ (hi ▸ hm) (formOf i) (encoded i)
  have hstored := fun ea b => (busWrite_stored ((resolvedState i s).withReg (sp s) .s) ea b).of_withSp
  have h := untouched_unstableWrite i s fun hs => hsp hs s
  refine ⟨_, by rw [exec_of_mnemonic hi, hop, unstableStore_withSp, hmask], encoded i, ((h _ _).kept i _).drawn,
    congrArg (· + 1) (h _ _).draws, (retired_retire (h _ _).pc (h _ _).cycles (h _ _).setup).drawn, hplus,
    fun hc => ?_, fun hc => ?_⟩
  · rw [← unstableAddr_of_not_crosses hc, ← unstableValue_of_not_crosses hc]
    exact (hstored _ _).drawn_retire
  · rw [← unstableAddr_of_crosses hc, ← unstableValue_of_crosses hc (mask s)]
    exact (hstored _ _).drawn_retire

/-- Three of the four leave S as it is. -/
theorem storesUnstable_of_meaning {m : Mnemonic} {mask : State → Byte} (hm : m ∈ unstableStores)
    (hop : ∀ i s, meaning m i s = unstableStore i mask s) : StoresUnstable m mask [] :=
  storesUnstable (mask' := mask) (sp := State.sp) hm hop (fun _ => rfl) fun _ _ => rfl

/-- TAS writes S first (R311). -/
theorem exec_tas {i : Instr} (h : i.mnemonic = .tas) (s : State) :
    exec i s = unstableStore i State.sp { s with sp := s.a &&& s.x } := exec_of_mnemonic h s

/-- Settles O51: the four are one common rule, TAS with S written first. -/
theorem unstableStoresHold : Obligations.UnstableStores := by
  refine ⟨storesUnstable_of_meaning (by decide) fun _ _ => rfl, storesUnstable_of_meaning (by decide) fun _ _ => rfl,
    storesUnstable_of_meaning (by decide) fun _ _ => rfl,
    storesUnstable (mask' := State.sp) (sp := fun s => s.a &&& s.x) (by decide) (fun _ _ => rfl) (fun _ => rfl)
      (fun hs => absurd (List.mem_singleton.2 rfl) hs), fun i s t hi ht => ?_⟩
  rw [exec_tas hi, unstableStore_withSp] at ht
  cases ht
  exact busWrite_sp _ _ _

/-! ### JAM -/

/-- The opcode map sends the twelve opcodes to JAM, which has no operand byte (R117, D2). -/
theorem template_jam :
    ∀ op ∈ [0x02#8, 0x12#8, 0x22#8, 0x32#8, 0x42#8, 0x52#8, 0x62#8, 0x72#8, 0x92#8, 0xB2#8, 0xD2#8, 0xF2#8],
      ∃ i, template op = .one i ∧ i.mnemonic = .jam := by
  simp only [List.forall_mem_cons]
  exact ⟨⟨_, rfl, rfl⟩, ⟨_, rfl, rfl⟩, ⟨_, rfl, rfl⟩, ⟨_, rfl, rfl⟩, ⟨_, rfl, rfl⟩, ⟨_, rfl, rfl⟩, ⟨_, rfl, rfl⟩,
    ⟨_, rfl, rfl⟩, ⟨_, rfl, rfl⟩, ⟨_, rfl, rfl⟩, ⟨_, rfl, rfl⟩, ⟨_, rfl, rfl⟩, fun _ h => absurd h List.not_mem_nil⟩

/-- The fetch of an instruction without operand bytes reads the opcode alone (R115). -/
theorem fetch_of_one {s : State} {i : Instr} (h : template (peek s s.pc) = .one i) : fetch s = (i, afterRead s s.pc) := by
  simp [fetch, h]

/-- A read does not look at the environment's turns and leaves them. -/
theorem afterRead_withEnv (s : State) (rest : List Turn) (a : Word) :
    afterRead { s with env := rest } a = { afterRead s a with env := rest } := by
  have h : selectsPort { s with env := rest } a = selectsPort s a := rfl
  unfold afterRead
  rw [h]
  cases selectsPort s a <;> rfl

/-- JAM is Halt (R312, R331). -/
theorem exec_jam {i : Instr} (h : i.mnemonic = .jam) (s : State) :
    exec i s = .next { s with halted := true, report := .halt } :=
  exec_of_mnemonic h s

/-- Settles O52: the twelve opcodes are fetched as JAM by one read, and JAM comes before the hold. -/
theorem jamHalts : Obligations.JamHalts := by
  refine ⟨fun i s h => ⟨encoded i, exec_jam h s⟩, fun s hold rest hrun henv hop => ?_⟩
  obtain ⟨i, htemplate, hi⟩ := template_jam _ hop
  have hfetch : fetch { s with env := rest } = (i, { afterRead s s.pc with env := rest }) := by
    rw [← afterRead_withEnv]
    exact fetch_of_one (s := { s with env := rest }) htemplate
  have hrequest := stepRequest_of_running (s := { s with env := rest }) hrun hold
  rw [step_of_env_instr henv, hrequest, hfetch, hi, if_neg (by simp), exec_jam hi]

end Sys2Proof.Machine
end

section
/-! PROOFS. The turns of interrupt and reset (R337 to R342, R380), alone or held for one boundary. -/

namespace Sys2Proof.Machine

/-! ### IRQ and NMI -/

/-- A masked IRQ does nothing (R337). -/
theorem irqRequest_of_masked {s : State} (h : getFlag .i s.p = true) : irqRequest s = s := by
  simp [irqRequest, h]

/-- Settles O53: the turn is the request, which is dropped when halted or masked and else enters. -/
theorem irqRequest_turn : Obligations.IrqRequest := by
  intro s rest henv
  have hstep : step s = .next (irqRequest { s with env := rest }) := step_of_env_turn henv (by simp)
  rw [hstep]
  refine ⟨fun h => congrArg _ ?_, fun hrun hclear => ?_⟩
  · obtain hhalted | hmasked := h
    · exact irqRequest_of_halted (s := { s with env := rest }) hhalted
    · exact irqRequest_of_masked (s := { s with env := rest }) hmasked
  · have henters := irqRequest_enters (s := { s with env := rest }) hrun hclear
    exact ⟨_, rfl, henters.kept.env, henters⟩

/-- Settles O54: the turn is the request, which is dropped when halted and else enters. -/
theorem nmiRequest_turn : Obligations.NmiRequest := by
  intro s rest henv
  have hstep : step s = .next (nmiRequest { s with env := rest }) := step_of_env_turn henv (by simp)
  rw [hstep]
  refine ⟨fun hhalted => congrArg _ (nmiRequest_of_halted (s := { s with env := rest }) hhalted), fun hrun => ?_⟩
  have henters := nmiRequest_enters (s := { s with env := rest }) hrun
  exact ⟨_, rfl, henters.kept.env, henters⟩

/-- An IRQ right after an NMI request does nothing: the NMI's entry set P.I, or the core is halted (R341). -/
theorem irqRequest_nmiRequest (s : State) : irqRequest (nmiRequest s) = nmiRequest s := by
  cases hhalted : s.halted
  · exact irqRequest_of_masked ((nmiRequest_enters hhalted).set .i (by simp))
  · rw [nmiRequest_of_halted hhalted, irqRequest_of_halted hhalted]

/-- Settles O57: after a reset nothing else is taken; an IRQ after an NMI does nothing. -/
theorem requestPriority : Obligations.RequestPriority := by
  refine fun s rest n i => ⟨rfl, ?_, rfl, rfl⟩
  cases i
  · rfl
  · exact congrArg Host.Outcome.next (irqRequest_nmiRequest { s with env := rest })

/-! ### Reset -/

/-- Reading the vector is seen by no device: a reset is what it is before the vector, with PC set (R380). -/
theorem resetEvent_eq (s : State) :
    resetEvent s = { resetBeforeVector s with
      pc := word (peek (resetBeforeVector s) 0xFFFD) (peek (resetBeforeVector s) 0xFFFC) } := by
  have hlow : afterRead (resetBeforeVector s) vectorReset = resetBeforeVector s :=
    afterRead_of_not_port (selectsPort_high _ (by decide))
  have hhigh : afterRead (resetBeforeVector s) (vectorReset + 1) = resetBeforeVector s :=
    afterRead_of_not_port (selectsPort_high _ (by decide))
  rw [resetEvent, afterReadWord, peekWord, hlow, hhigh]
  rfl

/-- From page 224 up the bus reads the KERNAL image when HIRAM and GAME are 1 (R65, R72). -/
theorem peek_kernal {s : State} {a : Word} (ha : 224 ≤ (hi a).toNat) (hgame : s.latch.game = true)
    (hhiram : s.latch.hiram = true) : peek s a = kernalByte s.setup (a.toNat - 0xE000) := by
  have hrom : classify s.latch a = .kernalRom := by
    simp (disch := omega) only [classify, classifyPage, if_neg]
    simp [Latch.ultimax, hgame, hhiram]
  exact (read_of_ne_ioDevices (by simp [hrom]) (by simp only [storeByte, hrom])).1

/-- P after a reset: U, and I as RESET_P has it (R381, D4). -/
theorem getFlag_resetP (f : Flag) (r : ResetP) :
    getFlag f (Config.resetP r) = decide (f = .u ∨ f = .i ∧ r = .irqDisabled) := by
  cases f <;> cases r <;> rfl

/-- Settles O56: each value is the one that a reset sets before it reads the vector, and the vector lies in the KERNAL image. -/
theorem resetEvent_turn : Obligations.ResetEvent := by
  intro s rest henv
  have hstep : step s = .next (resetEvent { s with env := rest }) := step_of_env_turn henv (by simp)
  refine ⟨_, hstep, ?_⟩
  rw [resetEvent_eq]
  refine ⟨rfl, rfl, rfl, rfl, fun f => getFlag_resetP f s.setup.resetP, rfl, rfl, rfl, rfl, fun hgame => ?_,
    fun _ => rfl, rfl, rfl, rfl, rfl, rfl⟩
  have hkernal : ∀ a : Word, 224 ≤ (hi a).toNat →
      peek (resetBeforeVector { s with env := rest }) a = kernalByte s.setup (a.toNat - 0xE000) :=
    fun a ha => peek_kernal ha hgame rfl
  exact congrArg₂ word (hkernal 0xFFFD (by decide)) (hkernal 0xFFFC (by decide))

end Sys2Proof.Machine
end

section
/-! PROOFS. The held step (R353): the reads of the fetch and of the operand's pointer are seen by the device port alone, and they do
not look at the environment's coming turns. -/

namespace Sys2Proof.Machine

/-! ### Reads are seen by the device port alone -/

/-- From `s` to `t` the device port may have seen accesses, and nothing else has changed (R76). -/
structure PortOnly (s t : State) : Prop where
  eq : t = { s with portLog := t.portLog }
  of_no_port : s.setup.devicePort = false → t = s

theorem PortOnly.refl (s : State) : PortOnly s s := ⟨rfl, fun _ => rfl⟩

theorem PortOnly.trans {s t u : State} (h : PortOnly s t) (h' : PortOnly t u) : PortOnly s u where
  eq := by rw [h'.eq, h.eq]
  of_no_port hs := by
    have hts : t = s := h.of_no_port hs
    rw [h'.of_no_port (hts ▸ hs), hts]

theorem portOnly_afterRead (s : State) (a : Word) : PortOnly s (afterRead s a) where
  eq := by unfold afterRead; split <;> rfl
  of_no_port h := afterRead_of_not_port (selectsPort_of_no_port h)

theorem portOnly_afterPointer (s : State) (ptr : Word) : PortOnly s (afterPointer s ptr) :=
  (portOnly_afterRead s ptr).trans (portOnly_afterRead _ _)

/-- The resolver makes the pointer reads at most (R140). -/
theorem portOnly_resolve (o : Operand) (s : State) : PortOnly s (resolve o s).state := by
  cases o with
  | ind ptr => exact portOnly_afterPointer s ptr
  | izx z => exact portOnly_afterPointer s _
  | izy z => exact portOnly_afterPointer s _
  | _ => exact .refl s

/-- The fetch makes the reads of the opcode and its operand bytes (R85). -/
theorem portOnly_fetch (s : State) : PortOnly s (fetch s).2 := by
  unfold fetch
  cases template (peek s s.pc) with
  | one i => exact portOnly_afterRead s _
  | two f => exact (portOnly_afterRead s _).trans (portOnly_afterRead _ _)
  | three f => exact (portOnly_afterRead s _).trans ((portOnly_afterRead _ _).trans (portOnly_afterRead _ _))

/-! ### Reads do not look at the coming turns -/

theorem peek_withEnv (s : State) (rest : List Turn) (a : Word) : peek { s with env := rest } a = peek s a := rfl

theorem resolve_withEnv (o : Operand) (s : State) (rest : List Turn) :
    resolve o { s with env := rest } = { resolve o s with state := { (resolve o s).state with env := rest } } := by
  cases o <;>
    simp only [resolve, Resolved.direct, Resolved.indexed, pointerWord, afterPointer, afterRead_withEnv, peek_withEnv]

theorem fetch_withEnv (s : State) (rest : List Turn) :
    fetch { s with env := rest } = ((fetch s).1, { (fetch s).2 with env := rest }) := by
  unfold fetch
  simp only [afterReadWord, peekWord, afterRead_withEnv, peek_withEnv]
  cases template (peek s s.pc) <;> rfl

/-- Settles O58: the held step is the fetch and the pointer reads, which only the port sees, and a report of 0. -/
theorem heldStep_turn : Obligations.HeldStep := by
  intro s rest hrun henv hjam
  have hstep : step s = .next (heldStep (fetch s).1 { (fetch s).2 with env := rest }) := by
    have hrequest := stepRequest_of_running (s := { s with env := rest }) hrun true
    rw [step_of_env_instr henv, hrequest, fetch_withEnv, if_pos (by simpa using hjam)]
  obtain ⟨heq, hnoPort⟩ : PortOnly s (resolvedState (fetch s).1 (fetch s).2) :=
    (portOnly_fetch s).trans (portOnly_resolve _ _)
  have hheld : heldStep (fetch s).1 { (fetch s).2 with env := rest } =
      { s with env := rest, report := .cycles 0, portLog := (resolvedState (fetch s).1 (fetch s).2).portLog } := by
    rw [heldStep, resolve_withEnv]
    exact congrArg (fun u : State => { u with env := rest, report := .cycles 0 }) heq
  rw [hheld] at hstep
  exact ⟨_, hstep, rfl, rfl, fun r => by cases r <;> rfl, ⟨rfl, fun _ => rfl⟩, rfl, hrun, rfl, rfl, rfl, rfl, rfl, rfl,
    fun hport => by rw [hnoPort hport]⟩

end Sys2Proof.Machine
end

section
/-! PROOFS. The host's turns (R33, R78, R391, R395) and the program load (R392). -/

namespace Sys2Proof.Machine

/-- Settles O59: each turn is the operation of its kind, and a write of P forces bit 5. -/
theorem hostOperations : Obligations.HostOperations := by
  intro s rest
  refine ⟨fun a v h => ?_, fun a v h => step_of_env_turn h (by simp), fun a h => step_of_env_turn h (by simp),
    fun v h => step_of_env_turn h (by simp), fun v h => step_of_env_turn h (by simp),
    fun v h => step_of_env_turn h (by simp), fun v h => step_of_env_turn h (by simp),
    fun v h => step_of_env_turn h (by simp), fun v h => step_of_env_turn h (by simp),
    fun g e h => step_of_env_turn h (by simp)⟩
  exact ⟨_, step_of_env_turn h (by simp), ramByte_rawWrite_same _ a v, fun b hb => ramByte_rawWrite_other _ a b v hb, rfl⟩

/-! ### Bytes stored from an address up -/

theorem add_ofNat_succ (a : Word) (k : Nat) : a + BitVec.ofNat 16 (k + 1) = a + 1 + BitVec.ofNat 16 k := by
  rw [BitVec.ofNat_add, BitVec.add_comm (BitVec.ofNat 16 k), ← BitVec.add_assoc]
  rfl

/-- The addresses from one up are different until they wrap (R392). -/
theorem ne_add_ofNat_succ (a : Word) {k : Nat} (h : k + 1 < 65536) : a ≠ a + BitVec.ofNat 16 (k + 1) := fun heq => by
  have hnat := congrArg BitVec.toNat heq
  have ha : a.toNat < 65536 := a.isLt
  rw [BitVec.toNat_add, BitVec.toNat_ofNat, Nat.mod_eq_of_lt h] at hnat
  omega

/-- Bytes stored raw leave every address that is none of theirs (R392). -/
theorem ramByte_rawWriteAll_other {s : State} {a b : Word} {data : List Byte}
    (h : ∀ k, k < data.length → b ≠ a + BitVec.ofNat 16 k) : ramByte (rawWriteAll s a data) b = ramByte s b := by
  induction data generalizing s a with
  | nil => rfl
  | cons v rest ih =>
    have hfirst : b ≠ a := by simpa using h 0 (Nat.succ_pos _)
    have hrest : ∀ k, k < rest.length → b ≠ a + 1 + BitVec.ofNat 16 k := fun k hk =>
      add_ofNat_succ a k ▸ h (k + 1) (Nat.succ_lt_succ hk)
    rw [rawWriteAll, ih hrest, ramByte_rawWrite_other s a b v hfirst]

/-- Bytes stored raw stand where they were stored, when no address comes twice (R392). -/
theorem ramByte_rawWriteAll_same {s : State} {a : Word} {data : List Byte} (hlen : data.length ≤ 65536) {k : Nat} {v : Byte}
    (h : data[k]? = some v) : ramByte (rawWriteAll s a data) (a + BitVec.ofNat 16 k) = v := by
  induction data generalizing s a k with
  | nil => cases h
  | cons w rest ih =>
    rw [List.length_cons] at hlen
    cases k with
    | zero =>
      have hdistinct : ∀ j, j < rest.length → a ≠ a + 1 + BitVec.ofNat 16 j := fun j hj =>
        add_ofNat_succ a j ▸ ne_add_ofNat_succ a (by omega)
      have hv : w = v := Option.some.inj h
      rw [BitVec.add_zero, rawWriteAll, ramByte_rawWriteAll_other hdistinct, ramByte_rawWrite_same, hv]
    | succ k =>
      rw [add_ofNat_succ]
      exact ih (Nat.le_of_succ_le hlen) h

/-! ### The patched pointers -/

/-- Patching the pointers leaves every byte that is none of theirs (R392). -/
theorem ramByte_patchPointers_other {s : State} {w b : Word} {ptrs : List Word} (h : ∀ q, q ∈ ptrs → b ∉ [q, q + 1]) :
    ramByte (patchPointers s w ptrs) b = ramByte s b := by
  induction ptrs generalizing s with
  | nil => rfl
  | cons q rest ih =>
    obtain ⟨hlow, hhigh⟩ : b ≠ q ∧ b ≠ q + 1 := by simpa using h q List.mem_cons_self
    rw [patchPointers, ih fun r hr => h r (List.mem_cons_of_mem q hr), ramByte_rawWrite_other _ _ _ _ hhigh,
      ramByte_rawWrite_other _ _ _ _ hlow]

/-- A patched pointer that no other one overlaps holds the word (R392). -/
theorem ramByte_patchPointers_same {s : State} {w q : Word} {ptrs : List Word} (hq : q ∈ ptrs)
    (h : ∀ r, r ∈ ptrs → r ≠ q + 1 ∧ q ≠ r + 1) :
    ramByte (patchPointers s w ptrs) q = lo w ∧ ramByte (patchPointers s w ptrs) (q + 1) = hi w := by
  induction ptrs generalizing s with
  | nil => cases hq
  | cons r rest ih =>
    by_cases hlater : q ∈ rest
    · exact ih hlater fun r' hr' => h r' (List.mem_cons_of_mem r hr')
    · obtain rfl : q = r := (List.mem_cons.1 hq).resolve_right hlater
      have hlow : ∀ r', r' ∈ rest → q ∉ [r', r' + 1] := fun r' hr' => by
        have hne : q ≠ r' := fun e => hlater (e ▸ hr')
        simpa [hne] using (h r' (List.mem_cons_of_mem q hr')).2
      have hhigh : ∀ r', r' ∈ rest → q + 1 ∉ [r', r' + 1] := fun r' hr' => by
        have hne : q ≠ r' := fun e => hlater (e ▸ hr')
        simpa [hne] using (h r' (List.mem_cons_of_mem q hr')).1.symm
      rw [patchPointers, ramByte_patchPointers_other hlow, ramByte_patchPointers_other hhigh, ramByte_rawWrite_same,
        ramByte_rawWrite_other _ _ _ _ (h q List.mem_cons_self).2, ramByte_rawWrite_same]
      exact ⟨rfl, rfl⟩

/-! ### The load -/

/-- A file's data is stored raw from its load address up; at $0801 the pointers are patched then (R392). -/
theorem loadProgram_cons (b0 b1 : Byte) (data : List Byte) (ptrs : List Word) (s : State) :
    loadProgram (b0 :: b1 :: data) ptrs s =
      if word b1 b0 = 0x0801 then
        patchPointers (rawWriteAll s (word b1 b0) data) (0x0801 + BitVec.ofNat 16 data.length) ptrs
      else rawWriteAll s (word b1 b0) data := rfl

/-- A load leaves what the data's bytes and the patched pointers do not touch as the data alone would leave it (R392). -/
theorem ramByte_loadProgram {s : State} {b0 b1 : Byte} {data : List Byte} {ptrs : List Word} {b : Word}
    (h : word b1 b0 = 0x0801 → ∀ q, q ∈ ptrs → b ∉ [q, q + 1]) :
    ramByte (loadProgram (b0 :: b1 :: data) ptrs s) b = ramByte (rawWriteAll s (word b1 b0) data) b := by
  rw [loadProgram_cons]
  split
  · next hstart => exact ramByte_patchPointers_other (h hstart)
  · rfl

/-- Settles O60: the data stands where it was stored but for the pointers patched over it, and each pointer holds $0801 + N. -/
theorem programLoad : Obligations.ProgramLoad := by
  intro s rest b0 b1 data ptrs henv hlen
  have hstep : step s = .next (loadProgram (b0 :: b1 :: data) ptrs { s with env := rest }) :=
    step_of_env_turn henv (by simp)
  refine ⟨_, hstep, (ramOnly_loadProgram _ _ _).eq, fun k v hk hptrs => ?_, fun b hdata hptrs => ?_,
    fun hstart q hq hapart => ?_⟩
  · rw [ramByte_loadProgram hptrs]
    exact ramByte_rawWriteAll_same hlen hk
  · rw [ramByte_loadProgram hptrs]
    exact ramByte_rawWriteAll_other hdata
  · rw [loadProgram_cons, if_pos hstart]
    obtain ⟨hlow, hhigh⟩ := ramByte_patchPointers_same (s := rawWriteAll { s with env := rest } (word b1 b0) data)
      (w := 0x0801 + BitVec.ofNat 16 data.length) hq hapart
    rw [hlow, hhigh, word_hi_lo, BitVec.toNat_add, BitVec.toNat_ofNat, Nat.add_mod_mod]
    rfl

end Sys2Proof.Machine
end
